-- ==== Sys2Proof/Word.lean ====
section
/-! DEFINITION. The word and byte types of the block (`00_scope.md` R9, R10, R12; `20_memory.md` R50).
Everything a later test could show wrong (field positions, byte order, target formulas) stands in
`Decode.lean` or under `Machine/`; this file only names the widths. -/

namespace Sys2Proof

/-- `Word32` of R12: a 32-bit unsigned value, bit 31 the most significant (R9). -/
abbrev Word32 := BitVec 32

/-- One byte of the image (R50: "A byte is 8 bits"). -/
abbrev Byte := BitVec 8

end Sys2Proof
end

