-- ==== Sys2Proof/Config.lean ====
section
/-! DEFINITION. What is fixed for one scan or left open by the spec: `BYTE_ORDER` and `BOOT_CODE_END`
(`00_scope.md` R7), the rendering parameters (`48_text_output.md` R392 to R396), and the one free
value of the scanner (`47_scanner.md` R374). -/

namespace Sys2Proof

/-- `BYTE_ORDER` of R52: which of four image bytes holds `w[31:24]`. -/
inductive ByteOrder where
  /-- the byte at the lowest offset holds `w[31:24]` (the default, R7) -/
  | big
  /-- the byte at the lowest offset holds `w[7:0]` -/
  | little
  deriving DecidableEq, Repr

/-- `PAD_SIDE` of R392: on which side of the mnemonic the blanks of the column stand. -/
inductive PadSide where
  | blanksBefore
  | blanksAfter
  deriving DecidableEq, Repr

/-- `HEX_CASE` of R392. -/
inductive HexCase where
  | lower
  | upper
  deriving DecidableEq, Repr

/-- `BOOT_CODE_END` (R7, R55): the deployed value of `scan_start`. The spec's default, which it marks
as general knowledge (log entry 2). -/
def Config.bootCodeEnd : Word32 := 0x1000#32

/-- The value `boundary_offset` takes when the failing word lies below offset 4 (R374, U4: `any value`).
No body: nothing can be proved of it. The argument is the model's own counter `State.freeIndex`, so
that no two halts share a value (log entry 1). -/
opaque Config.freeBoundaryOffset : Nat → Word32

end Sys2Proof
end

