-- ==== Sys2Proof/Machine/Result.lean ====
section
/-! DEFINITION. What the decoder answers: the mnemonic identifiers (`30_encoding.md` R99), the result record
`insn` and `DecodeResult` (`00_scope.md` R12), and the reject classes (`60_exceptions.md` R421, R422). -/

namespace Sys2Proof

/-- The mnemonic identifiers of R99 (148), and `sync`, the table entry that `via` can name and that is
never the mnemonic of a result (R99: "`sync` is never a result"). -/
inductive Mnemonic where
  | sll | srl | sra | sllv | srlv | srav | jr | jalr | syscall | brk | mfhi | mthi | mflo | mtlo
  | dsllv | dsrlv | dsrav | mult | multu | div | divu | dmult | dmultu | ddiv | ddivu | add | addu
  | sub | subu | and | or | xor | nor | slt | sltu | dadd | daddu | dsub | dsubu | tge | tgeu | tlt
  | tltu | teq | tne | dsll | dsrl | dsra | dsll32 | dsrl32 | dsra32 | beq | bne | blez | bgtz
  | addi | addiu | slti | sltiu | andi | ori | xori | lui | beql | bnel | daddi | daddiu | lb | lh
  | lwl | lw | lbu | lhu | lwr | lwu | sb | sh | swl | sw | swr | cache | lwc1 | ldc1 | ld | swc1
  | sdc1 | bltz | bgez | bltzl | bgezl | tgei | tgeiu | tlti | tltiu | teqi | tnei | bltzal
  | bgezal | bltzall | bgezall | bc0f | bc0t | bc0fl | bc0tl | bc1f | bc1t | bc1fl | bc1tl | bc2f
  | bc2t | bc2fl | bc2tl | addFmt | subFmt | mulFmt | divFmt | sqrtFmt | negFmt | roundWFmt
  | truncWFmt | ceilWFmt | floorWFmt | cvtSFmt | cvtDFmt | cvtWFmt | cCondFmt | mfc0 | dmfc0 | cfc0
  | mtc0 | dmtc0 | ctc0 | mfc1 | dmfc1 | cfc1 | mtc1 | dmtc1 | ctc1 | mfc2 | dmfc2 | cfc2 | mtc2
  | dmtc2 | ctc2 | j | jal | nop | move | sync
  deriving DecidableEq, Repr

/-- The spelling of an identifier, letter for letter as R99 spells it (D25). -/
def Mnemonic.spelling : Mnemonic → String
  | .sll => "sll"
  | .srl => "srl"
  | .sra => "sra"
  | .sllv => "sllv"
  | .srlv => "srlv"
  | .srav => "srav"
  | .jr => "jr"
  | .jalr => "jalr"
  | .syscall => "syscall"
  | .brk => "break"
  | .mfhi => "mfhi"
  | .mthi => "mthi"
  | .mflo => "mflo"
  | .mtlo => "mtlo"
  | .dsllv => "dsllv"
  | .dsrlv => "dsrlv"
  | .dsrav => "dsrav"
  | .mult => "mult"
  | .multu => "multu"
  | .div => "div"
  | .divu => "divu"
  | .dmult => "dmult"
  | .dmultu => "dmultu"
  | .ddiv => "ddiv"
  | .ddivu => "ddivu"
  | .add => "add"
  | .addu => "addu"
  | .sub => "sub"
  | .subu => "subu"
  | .and => "and"
  | .or => "or"
  | .xor => "xor"
  | .nor => "nor"
  | .slt => "slt"
  | .sltu => "sltu"
  | .dadd => "dadd"
  | .daddu => "daddu"
  | .dsub => "dsub"
  | .dsubu => "dsubu"
  | .tge => "tge"
  | .tgeu => "tgeu"
  | .tlt => "tlt"
  | .tltu => "tltu"
  | .teq => "teq"
  | .tne => "tne"
  | .dsll => "dsll"
  | .dsrl => "dsrl"
  | .dsra => "dsra"
  | .dsll32 => "dsll32"
  | .dsrl32 => "dsrl32"
  | .dsra32 => "dsra32"
  | .beq => "beq"
  | .bne => "bne"
  | .blez => "blez"
  | .bgtz => "bgtz"
  | .addi => "addi"
  | .addiu => "addiu"
  | .slti => "slti"
  | .sltiu => "sltiu"
  | .andi => "andi"
  | .ori => "ori"
  | .xori => "xori"
  | .lui => "lui"
  | .beql => "beql"
  | .bnel => "bnel"
  | .daddi => "daddi"
  | .daddiu => "daddiu"
  | .lb => "lb"
  | .lh => "lh"
  | .lwl => "lwl"
  | .lw => "lw"
  | .lbu => "lbu"
  | .lhu => "lhu"
  | .lwr => "lwr"
  | .lwu => "lwu"
  | .sb => "sb"
  | .sh => "sh"
  | .swl => "swl"
  | .sw => "sw"
  | .swr => "swr"
  | .cache => "cache"
  | .lwc1 => "lwc1"
  | .ldc1 => "ldc1"
  | .ld => "ld"
  | .swc1 => "swc1"
  | .sdc1 => "sdc1"
  | .bltz => "bltz"
  | .bgez => "bgez"
  | .bltzl => "bltzl"
  | .bgezl => "bgezl"
  | .tgei => "tgei"
  | .tgeiu => "tgeiu"
  | .tlti => "tlti"
  | .tltiu => "tltiu"
  | .teqi => "teqi"
  | .tnei => "tnei"
  | .bltzal => "bltzal"
  | .bgezal => "bgezal"
  | .bltzall => "bltzall"
  | .bgezall => "bgezall"
  | .bc0f => "bc0f"
  | .bc0t => "bc0t"
  | .bc0fl => "bc0fl"
  | .bc0tl => "bc0tl"
  | .bc1f => "bc1f"
  | .bc1t => "bc1t"
  | .bc1fl => "bc1fl"
  | .bc1tl => "bc1tl"
  | .bc2f => "bc2f"
  | .bc2t => "bc2t"
  | .bc2fl => "bc2fl"
  | .bc2tl => "bc2tl"
  | .addFmt => "add.fmt"
  | .subFmt => "sub.fmt"
  | .mulFmt => "mul.fmt"
  | .divFmt => "div.fmt"
  | .sqrtFmt => "sqrt.fmt"
  | .negFmt => "neg.fmt"
  | .roundWFmt => "round.w.fmt"
  | .truncWFmt => "trunc.w.fmt"
  | .ceilWFmt => "ceil.w.fmt"
  | .floorWFmt => "floor.w.fmt"
  | .cvtSFmt => "cvt.s.fmt"
  | .cvtDFmt => "cvt.d.fmt"
  | .cvtWFmt => "cvt.w.fmt"
  | .cCondFmt => "c.cond.fmt"
  | .mfc0 => "mfc0"
  | .dmfc0 => "dmfc0"
  | .cfc0 => "cfc0"
  | .mtc0 => "mtc0"
  | .dmtc0 => "dmtc0"
  | .ctc0 => "ctc0"
  | .mfc1 => "mfc1"
  | .dmfc1 => "dmfc1"
  | .cfc1 => "cfc1"
  | .mtc1 => "mtc1"
  | .dmtc1 => "dmtc1"
  | .ctc1 => "ctc1"
  | .mfc2 => "mfc2"
  | .dmfc2 => "dmfc2"
  | .cfc2 => "cfc2"
  | .mtc2 => "mtc2"
  | .dmtc2 => "dmtc2"
  | .ctc2 => "ctc2"
  | .j => "j"
  | .jal => "jal"
  | .nop => "nop"
  | .move => "move"
  | .sync => "sync"

/-- The branch-class identifiers of R99: their result carries the target of R86. -/
def Mnemonic.isBranchClass (mn : Mnemonic) : Bool :=
  [.beq, .bne, .blez, .bgtz, .beql, .bnel, .bltz, .bgez, .bltzl, .bgezl, .bltzal, .bgezal, .bltzall, .bgezall,
    .bc0f, .bc0t, .bc0fl, .bc0tl, .bc1f, .bc1t, .bc1fl, .bc1tl, .bc2f, .bc2t, .bc2fl, .bc2tl].contains mn

/-- The jump-class identifiers of R99: their result carries the target of R87. -/
def Mnemonic.isJumpClass (mn : Mnemonic) : Bool := mn == .j || mn == .jal

/-- `form` of R12: which of the three decoders accepted the word. -/
inductive Form where
  | R
  | I
  | J
  deriving DecidableEq, Repr

/-- The record `insn` of R12. `tgt` is present exactly for branch-class and jump-class results, `via`
names the table entry when `mn` is another name for it, `ubranch` marks the pattern of R214. -/
structure Insn where
  mn : Mnemonic
  form : Form
  w : Word32
  tgt : Option Word32
  via : Option Mnemonic
  ubranch : Bool
  deriving DecidableEq, Repr

/-- The three reject classes of R421. -/
inductive RejectClass where
  /-- a required-zero field is non-zero -/
  | malformedEncoding
  /-- the opcode or the function code has no mapping -/
  | unknownSelector
  /-- a recognised primary selector whose secondary selector has no mapping -/
  | unsupportedSubform
  deriving DecidableEq, Repr

/-- `DecodeResult` of R12: "Accepted or Rejected, never partial"; the class is the diagnostic of R421. -/
inductive DecodeResult where
  | accepted (insn : Insn)
  | rejected (cls : RejectClass)
  deriving DecidableEq, Repr

/-- The result with the value of its target forgotten: what of a result does not depend on the program counter
(R354). -/
def DecodeResult.pcFree : DecodeResult → DecodeResult
  | .accepted insn => .accepted { insn with tgt := insn.tgt.map (fun _ => 0#32) }
  | .rejected cls => .rejected cls

/-- The single outward signal of R355 and R422: all reject classes are the same outside the decoder. -/
def DecodeResult.outward : DecodeResult → Option Insn
  | .accepted insn => some insn
  | .rejected _ => none

/-- The debug codes of R422 (D18): 0 Accepted, 1 MalformedEncoding, 2 UnknownSelector,
3 UnsupportedSubform. -/
def DecodeResult.debugCode : DecodeResult → BitVec 2
  | .accepted _ => 0#2
  | .rejected .malformedEncoding => 1#2
  | .rejected .unknownSelector => 2#2
  | .rejected .unsupportedSubform => 3#2

end Sys2Proof
end

