-- ==== Sys2Proof/Syntax.lean ====
section
/-! DEFINITION. The instructions: one constructor per row of `spec/opcode_table.json` (`30_encoding.md`
R100), 149 in all. A constructor carries EVERY bit of the word that its row leaves free, operand and
untested bits alike (R95), each as a bit vector of its field's width, so that the word is recoverable
from the instruction (R12: "every field is recoverable"). Field names are those of R82 to R85:
`m` is the low four bits of the format tag (`fmt = 1mmmm`), `ft fs fd` the floating register fields,
`x` untested bits, `code` and `bits` code bits, `op` the operation number of `cache`.
`break` is a word of Lean, so its constructor is `brk`; the dots of a mnemonic are dropped
(`round.w.fmt` is `roundWFmt`). The two rows whose mnemonic is `nop` are `nopSll` and `nopSync`. -/

namespace Sys2Proof

/-- One decoded instruction, by its row of the opcode table. -/
inductive Instr where
  -- R-form (`41_rform.md` R150 to R201)
  /-- `nop`, alias of sll (R150) -/
  | nopSll (rd rt : BitVec 5)
  /-- `sll` (R150) -/
  | sll (rd rt shamt : BitVec 5)
  /-- `srl` (R151) -/
  | srl (rd rt shamt : BitVec 5)
  /-- `sra` (R152) -/
  | sra (rd rt shamt : BitVec 5)
  /-- `sllv` (R153) -/
  | sllv (rd rt rs : BitVec 5)
  /-- `srlv` (R154) -/
  | srlv (rd rt rs : BitVec 5)
  /-- `srav` (R155) -/
  | srav (rd rt rs : BitVec 5)
  /-- `jr` (R156) -/
  | jr (rs : BitVec 5)
  /-- `jalr` (R157) -/
  | jalr (rd rs : BitVec 5)
  /-- `syscall` (R158) -/
  | syscall (code : BitVec 20)
  /-- `break` (R159) -/
  | brk (code : BitVec 20)
  /-- `nop`, alias of sync (R160) -/
  | nopSync (bits : BitVec 20)
  /-- `mfhi` (R161) -/
  | mfhi (rd : BitVec 5)
  /-- `mthi` (R162) -/
  | mthi (rs : BitVec 5)
  /-- `mflo` (R163) -/
  | mflo (rd : BitVec 5)
  /-- `mtlo` (R164) -/
  | mtlo (rs : BitVec 5)
  /-- `dsllv` (R165) -/
  | dsllv (rd rt rs : BitVec 5)
  /-- `dsrlv` (R166) -/
  | dsrlv (rd rt rs : BitVec 5)
  /-- `dsrav` (R167) -/
  | dsrav (rd rt rs : BitVec 5)
  /-- `mult` (R168) -/
  | mult (rs rt : BitVec 5)
  /-- `multu` (R169) -/
  | multu (rs rt : BitVec 5)
  /-- `div` (R170) -/
  | div (rs rt : BitVec 5)
  /-- `divu` (R171) -/
  | divu (rs rt : BitVec 5)
  /-- `dmult` (R172) -/
  | dmult (rs rt : BitVec 5)
  /-- `dmultu` (R173) -/
  | dmultu (rs rt : BitVec 5)
  /-- `ddiv` (R174) -/
  | ddiv (rs rt : BitVec 5)
  /-- `ddivu` (R175) -/
  | ddivu (rs rt : BitVec 5)
  /-- `add` (R176) -/
  | add (rd rs rt : BitVec 5)
  /-- `move`, alias of addu (R177) -/
  | move (rd rs : BitVec 5)
  /-- `addu` (R177) -/
  | addu (rd rs rt : BitVec 5)
  /-- `sub` (R178) -/
  | sub (rd rs rt : BitVec 5)
  /-- `subu` (R179) -/
  | subu (rd rs rt : BitVec 5)
  /-- `and` (R180) -/
  | and (rd rs rt : BitVec 5)
  /-- `or` (R181) -/
  | or (rd rs rt : BitVec 5)
  /-- `xor` (R182) -/
  | xor (rd rs rt : BitVec 5)
  /-- `nor` (R183) -/
  | nor (rd rs rt : BitVec 5)
  /-- `slt` (R184) -/
  | slt (rd rs rt : BitVec 5)
  /-- `sltu` (R185) -/
  | sltu (rd rs rt : BitVec 5)
  /-- `dadd` (R186) -/
  | dadd (rd rs rt : BitVec 5)
  /-- `daddu` (R187) -/
  | daddu (rd rs rt : BitVec 5)
  /-- `dsub` (R188) -/
  | dsub (rd rs rt : BitVec 5)
  /-- `dsubu` (R189) -/
  | dsubu (rd rs rt : BitVec 5)
  /-- `tge` (R190) -/
  | tge (rs rt : BitVec 5) (code : BitVec 10)
  /-- `tgeu` (R191) -/
  | tgeu (rs rt : BitVec 5) (code : BitVec 10)
  /-- `tlt` (R192) -/
  | tlt (rs rt : BitVec 5) (code : BitVec 10)
  /-- `tltu` (R193) -/
  | tltu (rs rt : BitVec 5) (code : BitVec 10)
  /-- `teq` (R194) -/
  | teq (rs rt : BitVec 5) (code : BitVec 10)
  /-- `tne` (R195) -/
  | tne (rs rt : BitVec 5) (code : BitVec 10)
  /-- `dsll` (R196) -/
  | dsll (rd rt shamt : BitVec 5)
  /-- `dsrl` (R197) -/
  | dsrl (rd rt shamt : BitVec 5)
  /-- `dsra` (R198) -/
  | dsra (rd rt shamt : BitVec 5)
  /-- `dsll32` (R199) -/
  | dsll32 (rd rt shamt : BitVec 5)
  /-- `dsrl32` (R200) -/
  | dsrl32 (rd rt shamt : BitVec 5)
  /-- `dsra32` (R201) -/
  | dsra32 (rd rt shamt : BitVec 5)
  -- I-form, directly mapped opcodes (`42_iform.md` R220 to R254)
  /-- `beq` (R220) -/
  | beq (rs rt : BitVec 5) (imm : BitVec 16)
  /-- `bne` (R221) -/
  | bne (rs rt : BitVec 5) (imm : BitVec 16)
  /-- `blez` (R222) -/
  | blez (rs : BitVec 5) (imm : BitVec 16)
  /-- `bgtz` (R223) -/
  | bgtz (rs : BitVec 5) (imm : BitVec 16)
  /-- `addi` (R224) -/
  | addi (rt rs : BitVec 5) (imm : BitVec 16)
  /-- `addiu` (R225) -/
  | addiu (rt rs : BitVec 5) (imm : BitVec 16)
  /-- `slti` (R226) -/
  | slti (rt rs : BitVec 5) (imm : BitVec 16)
  /-- `sltiu` (R227) -/
  | sltiu (rt rs : BitVec 5) (imm : BitVec 16)
  /-- `andi` (R228) -/
  | andi (rt rs : BitVec 5) (imm : BitVec 16)
  /-- `ori` (R229) -/
  | ori (rt rs : BitVec 5) (imm : BitVec 16)
  /-- `xori` (R230) -/
  | xori (rt rs : BitVec 5) (imm : BitVec 16)
  /-- `lui` (R231) -/
  | lui (rt : BitVec 5) (imm : BitVec 16)
  /-- `beql` (R232) -/
  | beql (rs rt : BitVec 5) (imm : BitVec 16)
  /-- `bnel` (R233) -/
  | bnel (rs rt : BitVec 5) (imm : BitVec 16)
  /-- `daddi` (R234) -/
  | daddi (rt rs : BitVec 5) (imm : BitVec 16)
  /-- `daddiu` (R235) -/
  | daddiu (rt rs : BitVec 5) (imm : BitVec 16)
  /-- `lb` (R236) -/
  | lb (rt : BitVec 5) (imm : BitVec 16) (rs : BitVec 5)
  /-- `lh` (R237) -/
  | lh (rt : BitVec 5) (imm : BitVec 16) (rs : BitVec 5)
  /-- `lwl` (R238) -/
  | lwl (rt : BitVec 5) (imm : BitVec 16) (rs : BitVec 5)
  /-- `lw` (R239) -/
  | lw (rt : BitVec 5) (imm : BitVec 16) (rs : BitVec 5)
  /-- `lbu` (R240) -/
  | lbu (rt : BitVec 5) (imm : BitVec 16) (rs : BitVec 5)
  /-- `lhu` (R241) -/
  | lhu (rt : BitVec 5) (imm : BitVec 16) (rs : BitVec 5)
  /-- `lwr` (R242) -/
  | lwr (rt : BitVec 5) (imm : BitVec 16) (rs : BitVec 5)
  /-- `lwu` (R243) -/
  | lwu (rt : BitVec 5) (imm : BitVec 16) (rs : BitVec 5)
  /-- `sb` (R244) -/
  | sb (rt : BitVec 5) (imm : BitVec 16) (rs : BitVec 5)
  /-- `sh` (R245) -/
  | sh (rt : BitVec 5) (imm : BitVec 16) (rs : BitVec 5)
  /-- `swl` (R246) -/
  | swl (rt : BitVec 5) (imm : BitVec 16) (rs : BitVec 5)
  /-- `sw` (R247) -/
  | sw (rt : BitVec 5) (imm : BitVec 16) (rs : BitVec 5)
  /-- `swr` (R248) -/
  | swr (rt : BitVec 5) (imm : BitVec 16) (rs : BitVec 5)
  /-- `cache` (R249) -/
  | cache (op : BitVec 5) (imm : BitVec 16) (rs : BitVec 5)
  /-- `lwc1` (R250) -/
  | lwc1 (ft : BitVec 5) (imm : BitVec 16) (rs : BitVec 5)
  /-- `ldc1` (R251) -/
  | ldc1 (ft : BitVec 5) (imm : BitVec 16) (rs : BitVec 5)
  /-- `ld` (R252) -/
  | ld (rt : BitVec 5) (imm : BitVec 16) (rs : BitVec 5)
  /-- `swc1` (R253) -/
  | swc1 (ft : BitVec 5) (imm : BitVec 16) (rs : BitVec 5)
  /-- `sdc1` (R254) -/
  | sdc1 (ft : BitVec 5) (imm : BitVec 16) (rs : BitVec 5)
  -- regimm family (`43_iform_regimm.md` R261 to R274)
  /-- `bltz` (R261) -/
  | bltz (rs : BitVec 5) (imm : BitVec 16)
  /-- `bgez` (R262) -/
  | bgez (rs : BitVec 5) (imm : BitVec 16)
  /-- `bltzl` (R263) -/
  | bltzl (rs : BitVec 5) (imm : BitVec 16)
  /-- `bgezl` (R264) -/
  | bgezl (rs : BitVec 5) (imm : BitVec 16)
  /-- `tgei` (R265) -/
  | tgei (rs : BitVec 5) (imm : BitVec 16)
  /-- `tgeiu` (R266) -/
  | tgeiu (rs : BitVec 5) (imm : BitVec 16)
  /-- `tlti` (R267) -/
  | tlti (rs : BitVec 5) (imm : BitVec 16)
  /-- `tltiu` (R268) -/
  | tltiu (rs : BitVec 5) (imm : BitVec 16)
  /-- `teqi` (R269) -/
  | teqi (rs : BitVec 5) (imm : BitVec 16)
  /-- `tnei` (R270) -/
  | tnei (rs : BitVec 5) (imm : BitVec 16)
  /-- `bltzal` (R271) -/
  | bltzal (rs : BitVec 5) (imm : BitVec 16)
  /-- `bgezal` (R272) -/
  | bgezal (rs : BitVec 5) (imm : BitVec 16)
  /-- `bltzall` (R273) -/
  | bltzall (rs : BitVec 5) (imm : BitVec 16)
  /-- `bgezall` (R274) -/
  | bgezall (rs : BitVec 5) (imm : BitVec 16)
  -- coprocessor conditional branches (`44_iform_cop.md` R290 to R301)
  /-- `bc0f` (R290) -/
  | bc0f (x : BitVec 3) (imm : BitVec 16)
  /-- `bc0t` (R291) -/
  | bc0t (x : BitVec 3) (imm : BitVec 16)
  /-- `bc0fl` (R292) -/
  | bc0fl (x : BitVec 3) (imm : BitVec 16)
  /-- `bc0tl` (R293) -/
  | bc0tl (x : BitVec 3) (imm : BitVec 16)
  /-- `bc1f` (R294) -/
  | bc1f (x : BitVec 3) (imm : BitVec 16)
  /-- `bc1t` (R295) -/
  | bc1t (x : BitVec 3) (imm : BitVec 16)
  /-- `bc1fl` (R296) -/
  | bc1fl (x : BitVec 3) (imm : BitVec 16)
  /-- `bc1tl` (R297) -/
  | bc1tl (x : BitVec 3) (imm : BitVec 16)
  /-- `bc2f` (R298) -/
  | bc2f (x : BitVec 3) (imm : BitVec 16)
  /-- `bc2t` (R299) -/
  | bc2t (x : BitVec 3) (imm : BitVec 16)
  /-- `bc2fl` (R300) -/
  | bc2fl (x : BitVec 3) (imm : BitVec 16)
  /-- `bc2tl` (R301) -/
  | bc2tl (x : BitVec 3) (imm : BitVec 16)
  -- floating-point forms (`44_iform_cop.md` R302 to R315)
  /-- `add.fmt` (R302) -/
  | addFmt (m : BitVec 4) (fd fs ft : BitVec 5)
  /-- `sub.fmt` (R303) -/
  | subFmt (m : BitVec 4) (fd fs ft : BitVec 5)
  /-- `mul.fmt` (R304) -/
  | mulFmt (m : BitVec 4) (fd fs ft : BitVec 5)
  /-- `div.fmt` (R305) -/
  | divFmt (m : BitVec 4) (fd fs ft : BitVec 5)
  /-- `sqrt.fmt` (R306) -/
  | sqrtFmt (m : BitVec 4) (fd fs : BitVec 5)
  /-- `neg.fmt` (R307) -/
  | negFmt (m : BitVec 4) (fd fs : BitVec 5)
  /-- `round.w.fmt` (R308) -/
  | roundWFmt (m : BitVec 4) (fd fs : BitVec 5)
  /-- `trunc.w.fmt` (R309) -/
  | truncWFmt (m : BitVec 4) (fd fs : BitVec 5)
  /-- `ceil.w.fmt` (R310) -/
  | ceilWFmt (m : BitVec 4) (fd fs : BitVec 5)
  /-- `floor.w.fmt` (R311) -/
  | floorWFmt (m : BitVec 4) (fd fs : BitVec 5)
  /-- `cvt.s.fmt` (R312) -/
  | cvtSFmt (m : BitVec 4) (fd fs : BitVec 5)
  /-- `cvt.d.fmt` (R313) -/
  | cvtDFmt (m : BitVec 4) (fd fs : BitVec 5)
  /-- `cvt.w.fmt` (R314) -/
  | cvtWFmt (m : BitVec 4) (fd fs : BitVec 5)
  /-- `c.cond.fmt` (R315) -/
  | cCondFmt (m cond : BitVec 4) (fs ft : BitVec 5) (x : BitVec 3)
  -- coprocessor moves (`44_iform_cop.md` R316 to R333)
  /-- `mfc0` (R316) -/
  | mfc0 (rt rd : BitVec 5)
  /-- `dmfc0` (R317) -/
  | dmfc0 (rt rd : BitVec 5)
  /-- `cfc0` (R318) -/
  | cfc0 (rt rd : BitVec 5)
  /-- `mtc0` (R319) -/
  | mtc0 (rt rd : BitVec 5)
  /-- `dmtc0` (R320) -/
  | dmtc0 (rt rd : BitVec 5)
  /-- `ctc0` (R321) -/
  | ctc0 (rt rd : BitVec 5)
  /-- `mfc1` (R322) -/
  | mfc1 (rt rd : BitVec 5)
  /-- `dmfc1` (R323) -/
  | dmfc1 (rt rd : BitVec 5)
  /-- `cfc1` (R324) -/
  | cfc1 (rt rd : BitVec 5)
  /-- `mtc1` (R325) -/
  | mtc1 (rt rd : BitVec 5)
  /-- `dmtc1` (R326) -/
  | dmtc1 (rt rd : BitVec 5)
  /-- `ctc1` (R327) -/
  | ctc1 (rt rd : BitVec 5)
  /-- `mfc2` (R328) -/
  | mfc2 (rt rd : BitVec 5)
  /-- `dmfc2` (R329) -/
  | dmfc2 (rt rd : BitVec 5)
  /-- `cfc2` (R330) -/
  | cfc2 (rt rd : BitVec 5)
  /-- `mtc2` (R331) -/
  | mtc2 (rt rd : BitVec 5)
  /-- `dmtc2` (R332) -/
  | dmtc2 (rt rd : BitVec 5)
  /-- `ctc2` (R333) -/
  | ctc2 (rt rd : BitVec 5)
  -- J-form (`45_jform.md` R343, R344)
  /-- `j` (R343) -/
  | j (target : BitVec 26)
  /-- `jal` (R344) -/
  | jal (target : BitVec 26)
  deriving DecidableEq, Repr

end Sys2Proof
end

