-- ==== Sys2Proof/WellFormed.lean ====
section
/-! DEFINITION. Which instructions have a word of their own. Every operand is a bit vector of its field's width,
so any value of it can be encoded; two constructors share their pattern with another row of the table
(`30_encoding.md` R94, R100: the rows of priority 0) and exclude the words that row takes. -/

namespace Sys2Proof

/-- A well-formed instruction. `sll` with a zero amount is the word of `nop` (R145), `addu` with a zero second
operand that of `move` (R147). -/
def Instr.wellFormed : Instr → Bool
  | .sll _ _ shamt => shamt != 0#5
  | .addu _ _ rt => rt != 0#5
  | _ => true

end Sys2Proof
end

