-- ==== Sys2Proof/Decode.lean ====
section
/-! DEFINITION. The decoder of `T_default`, word to instruction (`46_dispatch.md` R350 and the files it names),
and after it the encoder. The decoder is total and rejects by class (R421); it is written as the spec's
pseudocode is, one arm per selector, each arm with its own required-zero test. Bits are placed by
`30_encoding.md` R81 to R85. The same decoder written from decode tables, for an arbitrary profile,
is `Machine/Profile.lean`; the opcode table itself is `Machine/OpcodeTable.lean`. -/

namespace Sys2Proof

/-! ### Fields (R82 to R85) -/

/-- `opcode = w[31:26]` (R81) -/
def opcodeOf (w : Word32) : BitVec 6 := w.extractLsb' 26 6
/-- `rs = w[25:21]`, also `fmt` (R82, R85) -/
def rsOf (w : Word32) : BitVec 5 := w.extractLsb' 21 5
/-- `rt = w[20:16]`, also `ft` (R82, R85) -/
def rtOf (w : Word32) : BitVec 5 := w.extractLsb' 16 5
/-- `rd = w[15:11]`, also `fs` (R82, R85) -/
def rdOf (w : Word32) : BitVec 5 := w.extractLsb' 11 5
/-- `shamt = w[10:6]`, also `fd` (R82, R85) -/
def shamtOf (w : Word32) : BitVec 5 := w.extractLsb' 6 5
/-- `funct = w[5:0]`, also `imm[5:0]` (R82, R85) -/
def functOf (w : Word32) : BitVec 6 := w.extractLsb' 0 6
/-- `imm = w[15:0]` (R83) -/
def immOf (w : Word32) : BitVec 16 := w.extractLsb' 0 16
/-- `target = w[25:0]` (R84) -/
def targetOf (w : Word32) : BitVec 26 := w.extractLsb' 0 26
/-- `imm[10:0]`, the move form's required-zero window (R85, R286) -/
def immLow11Of (w : Word32) : BitVec 11 := w.extractLsb' 0 11
/-- `imm[7:4]`, the compare window (R85, R284) -/
def compareWindowOf (w : Word32) : BitVec 4 := w.extractLsb' 4 4
/-- `imm[3:0]`, the floating condition code (R85, R284) -/
def condOf (w : Word32) : BitVec 4 := w.extractLsb' 0 4
/-- `imm[10:8]`, untested in the compare form (R284) -/
def compareUntestedOf (w : Word32) : BitVec 3 := w.extractLsb' 8 3
/-- `rt[1:0]`, the coprocessor branch selector (R281) -/
def branchSelectOf (w : Word32) : BitVec 2 := w.extractLsb' 16 2
/-- `rt[4:2]`, untested in the coprocessor branch form (R281) -/
def branchUntestedOf (w : Word32) : BitVec 3 := w.extractLsb' 18 3
/-- `rs[4] == 1`, the gate of the floating-point sub-dispatch (R282) -/
def floatGateOf (w : Word32) : Bool := w.getLsbD 25
/-- `fmt[3:0]`, the low four bits of the format tag (R285) -/
def formatLowOf (w : Word32) : BitVec 4 := w.extractLsb' 21 4
/-- `w[25:6]`, the code bits of `syscall` and `break` and the untested bits of the sync-class code (R95) -/
def codeBitsOf (w : Word32) : BitVec 20 := w.extractLsb' 6 20
/-- `w[15:6]`, the code bits of the six trap function codes (R95) -/
def trapCodeOf (w : Word32) : BitVec 10 := w.extractLsb' 6 10

/-- The three coprocessor ids (R280). -/
inductive CopId where
  | cop0
  | cop1
  | cop2
  deriving DecidableEq, Repr

/-! ### The decoder -/

/-- The required-zero test, before anything is accepted (R93, R141 (3), R211 (4)). -/
def requireZero (zero : Bool) (i : Instr) : Except RejectClass Instr :=
  if zero then .ok i else .error .malformedEncoding

/-- `RDecode` of R140 to R148 with the entries R150 to R202. Selector, then the sync-class code, then the
zero pattern, then the two renamed forms (R141). -/
def rDecode (w : Word32) : Except RejectClass Instr :=
  match functOf w with
  | 0#6 => requireZero (rsOf w == 0) (if shamtOf w == 0 then .nopSll (rdOf w) (rtOf w) else .sll (rdOf w) (rtOf w) (shamtOf w))
  | 2#6 => requireZero (rsOf w == 0) (.srl (rdOf w) (rtOf w) (shamtOf w))
  | 3#6 => requireZero (rsOf w == 0) (.sra (rdOf w) (rtOf w) (shamtOf w))
  | 4#6 => requireZero (shamtOf w == 0) (.sllv (rdOf w) (rtOf w) (rsOf w))
  | 6#6 => requireZero (shamtOf w == 0) (.srlv (rdOf w) (rtOf w) (rsOf w))
  | 7#6 => requireZero (shamtOf w == 0) (.srav (rdOf w) (rtOf w) (rsOf w))
  | 8#6 => requireZero (rtOf w == 0 && rdOf w == 0 && shamtOf w == 0) (.jr (rsOf w))
  | 9#6 => requireZero (rtOf w == 0 && shamtOf w == 0) (.jalr (rdOf w) (rsOf w))
  | 12#6 => .ok (.syscall (codeBitsOf w))
  | 13#6 => .ok (.brk (codeBitsOf w))
  | 15#6 => .ok (.nopSync (codeBitsOf w))
  | 16#6 => requireZero (rsOf w == 0 && rtOf w == 0 && shamtOf w == 0) (.mfhi (rdOf w))
  | 17#6 => requireZero (rtOf w == 0 && rdOf w == 0 && shamtOf w == 0) (.mthi (rsOf w))
  | 18#6 => requireZero (rsOf w == 0 && rtOf w == 0 && shamtOf w == 0) (.mflo (rdOf w))
  | 19#6 => requireZero (rtOf w == 0 && rdOf w == 0 && shamtOf w == 0) (.mtlo (rsOf w))
  | 20#6 => requireZero (shamtOf w == 0) (.dsllv (rdOf w) (rtOf w) (rsOf w))
  | 22#6 => requireZero (shamtOf w == 0) (.dsrlv (rdOf w) (rtOf w) (rsOf w))
  | 23#6 => requireZero (shamtOf w == 0) (.dsrav (rdOf w) (rtOf w) (rsOf w))
  | 24#6 => requireZero (rdOf w == 0 && shamtOf w == 0) (.mult (rsOf w) (rtOf w))
  | 25#6 => requireZero (rdOf w == 0 && shamtOf w == 0) (.multu (rsOf w) (rtOf w))
  | 26#6 => requireZero (rdOf w == 0 && shamtOf w == 0) (.div (rsOf w) (rtOf w))
  | 27#6 => requireZero (rdOf w == 0 && shamtOf w == 0) (.divu (rsOf w) (rtOf w))
  | 28#6 => requireZero (rdOf w == 0 && shamtOf w == 0) (.dmult (rsOf w) (rtOf w))
  | 29#6 => requireZero (rdOf w == 0 && shamtOf w == 0) (.dmultu (rsOf w) (rtOf w))
  | 30#6 => requireZero (rdOf w == 0 && shamtOf w == 0) (.ddiv (rsOf w) (rtOf w))
  | 31#6 => requireZero (rdOf w == 0 && shamtOf w == 0) (.ddivu (rsOf w) (rtOf w))
  | 32#6 => requireZero (shamtOf w == 0) (.add (rdOf w) (rsOf w) (rtOf w))
  | 33#6 => requireZero (shamtOf w == 0) (if rtOf w == 0 then .move (rdOf w) (rsOf w) else .addu (rdOf w) (rsOf w) (rtOf w))
  | 34#6 => requireZero (shamtOf w == 0) (.sub (rdOf w) (rsOf w) (rtOf w))
  | 35#6 => requireZero (shamtOf w == 0) (.subu (rdOf w) (rsOf w) (rtOf w))
  | 36#6 => requireZero (shamtOf w == 0) (.and (rdOf w) (rsOf w) (rtOf w))
  | 37#6 => requireZero (shamtOf w == 0) (.or (rdOf w) (rsOf w) (rtOf w))
  | 38#6 => requireZero (shamtOf w == 0) (.xor (rdOf w) (rsOf w) (rtOf w))
  | 39#6 => requireZero (shamtOf w == 0) (.nor (rdOf w) (rsOf w) (rtOf w))
  | 42#6 => requireZero (shamtOf w == 0) (.slt (rdOf w) (rsOf w) (rtOf w))
  | 43#6 => requireZero (shamtOf w == 0) (.sltu (rdOf w) (rsOf w) (rtOf w))
  | 44#6 => requireZero (shamtOf w == 0) (.dadd (rdOf w) (rsOf w) (rtOf w))
  | 45#6 => requireZero (shamtOf w == 0) (.daddu (rdOf w) (rsOf w) (rtOf w))
  | 46#6 => requireZero (shamtOf w == 0) (.dsub (rdOf w) (rsOf w) (rtOf w))
  | 47#6 => requireZero (shamtOf w == 0) (.dsubu (rdOf w) (rsOf w) (rtOf w))
  | 48#6 => .ok (.tge (rsOf w) (rtOf w) (trapCodeOf w))
  | 49#6 => .ok (.tgeu (rsOf w) (rtOf w) (trapCodeOf w))
  | 50#6 => .ok (.tlt (rsOf w) (rtOf w) (trapCodeOf w))
  | 51#6 => .ok (.tltu (rsOf w) (rtOf w) (trapCodeOf w))
  | 52#6 => .ok (.teq (rsOf w) (rtOf w) (trapCodeOf w))
  | 54#6 => .ok (.tne (rsOf w) (rtOf w) (trapCodeOf w))
  | 56#6 => requireZero (rsOf w == 0) (.dsll (rdOf w) (rtOf w) (shamtOf w))
  | 58#6 => requireZero (rsOf w == 0) (.dsrl (rdOf w) (rtOf w) (shamtOf w))
  | 59#6 => requireZero (rsOf w == 0) (.dsra (rdOf w) (rtOf w) (shamtOf w))
  | 60#6 => requireZero (rsOf w == 0) (.dsll32 (rdOf w) (rtOf w) (shamtOf w))
  | 62#6 => requireZero (rsOf w == 0) (.dsrl32 (rdOf w) (rtOf w) (shamtOf w))
  | 63#6 => requireZero (rsOf w == 0) (.dsra32 (rdOf w) (rtOf w) (shamtOf w))
  | _ => .error .unknownSelector

/-- The regimm family: a 14-entry table keyed on `rt`, no required-zero field (R260 to R275). -/
def regimmDecode (w : Word32) : Except RejectClass Instr :=
  match rtOf w with
  | 0#5 => .ok (.bltz (rsOf w) (immOf w))
  | 1#5 => .ok (.bgez (rsOf w) (immOf w))
  | 2#5 => .ok (.bltzl (rsOf w) (immOf w))
  | 3#5 => .ok (.bgezl (rsOf w) (immOf w))
  | 8#5 => .ok (.tgei (rsOf w) (immOf w))
  | 9#5 => .ok (.tgeiu (rsOf w) (immOf w))
  | 10#5 => .ok (.tlti (rsOf w) (immOf w))
  | 11#5 => .ok (.tltiu (rsOf w) (immOf w))
  | 12#5 => .ok (.teqi (rsOf w) (immOf w))
  | 14#5 => .ok (.tnei (rsOf w) (immOf w))
  | 16#5 => .ok (.bltzal (rsOf w) (immOf w))
  | 17#5 => .ok (.bgezal (rsOf w) (immOf w))
  | 18#5 => .ok (.bltzall (rsOf w) (immOf w))
  | 19#5 => .ok (.bgezall (rsOf w) (immOf w))
  | _ => .error .unsupportedSubform

/-- Step (a) of the coprocessor cascade: the low two bits of `rt` select among four branches per id, `rt[4:2]`
is not tested (R281, R290 to R301). -/
def copBranchDecode (z : CopId) (w : Word32) : Instr :=
  match z, branchSelectOf w with
  | .cop0, 0#2 => .bc0f (branchUntestedOf w) (immOf w)
  | .cop0, 1#2 => .bc0t (branchUntestedOf w) (immOf w)
  | .cop0, 2#2 => .bc0fl (branchUntestedOf w) (immOf w)
  | .cop0, _ => .bc0tl (branchUntestedOf w) (immOf w)
  | .cop1, 0#2 => .bc1f (branchUntestedOf w) (immOf w)
  | .cop1, 1#2 => .bc1t (branchUntestedOf w) (immOf w)
  | .cop1, 2#2 => .bc1fl (branchUntestedOf w) (immOf w)
  | .cop1, _ => .bc1tl (branchUntestedOf w) (immOf w)
  | .cop2, 0#2 => .bc2f (branchUntestedOf w) (immOf w)
  | .cop2, 1#2 => .bc2t (branchUntestedOf w) (immOf w)
  | .cop2, 2#2 => .bc2fl (branchUntestedOf w) (immOf w)
  | .cop2, _ => .bc2tl (branchUntestedOf w) (immOf w)

/-- Step (b) of the cascade, for coprocessor 1 behind its gate: the function-code table keyed on `imm[5:0]`,
then the compare window; `none` when neither matches and the word falls to step (c) (R282 to R285). -/
def floatDecode (w : Word32) : Option (Except RejectClass Instr) :=
  match functOf w with
  | 0#6 => some (.ok (.addFmt (formatLowOf w) (shamtOf w) (rdOf w) (rtOf w)))
  | 1#6 => some (.ok (.subFmt (formatLowOf w) (shamtOf w) (rdOf w) (rtOf w)))
  | 2#6 => some (.ok (.mulFmt (formatLowOf w) (shamtOf w) (rdOf w) (rtOf w)))
  | 3#6 => some (.ok (.divFmt (formatLowOf w) (shamtOf w) (rdOf w) (rtOf w)))
  | 4#6 => some (requireZero (rtOf w == 0) (.sqrtFmt (formatLowOf w) (shamtOf w) (rdOf w)))
  | 7#6 => some (requireZero (rtOf w == 0) (.negFmt (formatLowOf w) (shamtOf w) (rdOf w)))
  | 12#6 => some (requireZero (rtOf w == 0) (.roundWFmt (formatLowOf w) (shamtOf w) (rdOf w)))
  | 13#6 => some (requireZero (rtOf w == 0) (.truncWFmt (formatLowOf w) (shamtOf w) (rdOf w)))
  | 14#6 => some (requireZero (rtOf w == 0) (.ceilWFmt (formatLowOf w) (shamtOf w) (rdOf w)))
  | 15#6 => some (requireZero (rtOf w == 0) (.floorWFmt (formatLowOf w) (shamtOf w) (rdOf w)))
  | 32#6 => some (requireZero (rtOf w == 0) (.cvtSFmt (formatLowOf w) (shamtOf w) (rdOf w)))
  | 33#6 => some (requireZero (rtOf w == 0) (.cvtDFmt (formatLowOf w) (shamtOf w) (rdOf w)))
  | 36#6 => some (requireZero (rtOf w == 0) (.cvtWFmt (formatLowOf w) (shamtOf w) (rdOf w)))
  | _ =>
    if compareWindowOf w == 3 then
      some (.ok (.cCondFmt (formatLowOf w) (condOf w) (rdOf w) (rtOf w) (compareUntestedOf w)))
    else none

/-- Step (c) of the cascade: the move form, keyed on `rs`, `imm[10:0]` required zero (R286, R287). -/
def copMoveDecode (z : CopId) (w : Word32) : Except RejectClass Instr :=
  match z, rsOf w with
  | .cop0, 0#5 => requireZero (immLow11Of w == 0) (.mfc0 (rtOf w) (rdOf w))
  | .cop0, 1#5 => requireZero (immLow11Of w == 0) (.dmfc0 (rtOf w) (rdOf w))
  | .cop0, 2#5 => requireZero (immLow11Of w == 0) (.cfc0 (rtOf w) (rdOf w))
  | .cop0, 4#5 => requireZero (immLow11Of w == 0) (.mtc0 (rtOf w) (rdOf w))
  | .cop0, 5#5 => requireZero (immLow11Of w == 0) (.dmtc0 (rtOf w) (rdOf w))
  | .cop0, 6#5 => requireZero (immLow11Of w == 0) (.ctc0 (rtOf w) (rdOf w))
  | .cop1, 0#5 => requireZero (immLow11Of w == 0) (.mfc1 (rtOf w) (rdOf w))
  | .cop1, 1#5 => requireZero (immLow11Of w == 0) (.dmfc1 (rtOf w) (rdOf w))
  | .cop1, 2#5 => requireZero (immLow11Of w == 0) (.cfc1 (rtOf w) (rdOf w))
  | .cop1, 4#5 => requireZero (immLow11Of w == 0) (.mtc1 (rtOf w) (rdOf w))
  | .cop1, 5#5 => requireZero (immLow11Of w == 0) (.dmtc1 (rtOf w) (rdOf w))
  | .cop1, 6#5 => requireZero (immLow11Of w == 0) (.ctc1 (rtOf w) (rdOf w))
  | .cop2, 0#5 => requireZero (immLow11Of w == 0) (.mfc2 (rtOf w) (rdOf w))
  | .cop2, 1#5 => requireZero (immLow11Of w == 0) (.dmfc2 (rtOf w) (rdOf w))
  | .cop2, 2#5 => requireZero (immLow11Of w == 0) (.cfc2 (rtOf w) (rdOf w))
  | .cop2, 4#5 => requireZero (immLow11Of w == 0) (.mtc2 (rtOf w) (rdOf w))
  | .cop2, 5#5 => requireZero (immLow11Of w == 0) (.dmtc2 (rtOf w) (rdOf w))
  | .cop2, 6#5 => requireZero (immLow11Of w == 0) (.ctc2 (rtOf w) (rdOf w))
  | _, _ => .error .unsupportedSubform

/-- `CopDecode` of R280: the three steps in order, the first that decides. -/
def copDecode (z : CopId) (w : Word32) : Except RejectClass Instr :=
  if rsOf w == 8 then .ok (copBranchDecode z w)
  else
    match z, floatGateOf w with
    | .cop1, true => (floatDecode w).getD (copMoveDecode .cop1 w)
    | z, _ => copMoveDecode z w

/-- `IDecode` of R211: regimm, coprocessor access, then the directly mapped opcodes (R220 to R255). -/
def iDecode (w : Word32) : Except RejectClass Instr :=
  match opcodeOf w with
  | 1#6 => regimmDecode w
  | 16#6 => copDecode .cop0 w
  | 17#6 => copDecode .cop1 w
  | 18#6 => copDecode .cop2 w
  | 4#6 => .ok (.beq (rsOf w) (rtOf w) (immOf w))
  | 5#6 => .ok (.bne (rsOf w) (rtOf w) (immOf w))
  | 6#6 => requireZero (rtOf w == 0) (.blez (rsOf w) (immOf w))
  | 7#6 => requireZero (rtOf w == 0) (.bgtz (rsOf w) (immOf w))
  | 8#6 => .ok (.addi (rtOf w) (rsOf w) (immOf w))
  | 9#6 => .ok (.addiu (rtOf w) (rsOf w) (immOf w))
  | 10#6 => .ok (.slti (rtOf w) (rsOf w) (immOf w))
  | 11#6 => .ok (.sltiu (rtOf w) (rsOf w) (immOf w))
  | 12#6 => .ok (.andi (rtOf w) (rsOf w) (immOf w))
  | 13#6 => .ok (.ori (rtOf w) (rsOf w) (immOf w))
  | 14#6 => .ok (.xori (rtOf w) (rsOf w) (immOf w))
  | 15#6 => requireZero (rsOf w == 0) (.lui (rtOf w) (immOf w))
  | 20#6 => .ok (.beql (rsOf w) (rtOf w) (immOf w))
  | 21#6 => .ok (.bnel (rsOf w) (rtOf w) (immOf w))
  | 24#6 => .ok (.daddi (rtOf w) (rsOf w) (immOf w))
  | 25#6 => .ok (.daddiu (rtOf w) (rsOf w) (immOf w))
  | 32#6 => .ok (.lb (rtOf w) (immOf w) (rsOf w))
  | 33#6 => .ok (.lh (rtOf w) (immOf w) (rsOf w))
  | 34#6 => .ok (.lwl (rtOf w) (immOf w) (rsOf w))
  | 35#6 => .ok (.lw (rtOf w) (immOf w) (rsOf w))
  | 36#6 => .ok (.lbu (rtOf w) (immOf w) (rsOf w))
  | 37#6 => .ok (.lhu (rtOf w) (immOf w) (rsOf w))
  | 38#6 => .ok (.lwr (rtOf w) (immOf w) (rsOf w))
  | 39#6 => .ok (.lwu (rtOf w) (immOf w) (rsOf w))
  | 40#6 => .ok (.sb (rtOf w) (immOf w) (rsOf w))
  | 41#6 => .ok (.sh (rtOf w) (immOf w) (rsOf w))
  | 42#6 => .ok (.swl (rtOf w) (immOf w) (rsOf w))
  | 43#6 => .ok (.sw (rtOf w) (immOf w) (rsOf w))
  | 46#6 => .ok (.swr (rtOf w) (immOf w) (rsOf w))
  | 47#6 => .ok (.cache (rtOf w) (immOf w) (rsOf w))
  | 49#6 => .ok (.lwc1 (rtOf w) (immOf w) (rsOf w))
  | 53#6 => .ok (.ldc1 (rtOf w) (immOf w) (rsOf w))
  | 55#6 => .ok (.ld (rtOf w) (immOf w) (rsOf w))
  | 57#6 => .ok (.swc1 (rtOf w) (immOf w) (rsOf w))
  | 61#6 => .ok (.sdc1 (rtOf w) (immOf w) (rsOf w))
  | _ => .error .unknownSelector

/-- `Decode` of R350, as far as it does not depend on the program counter (R354): the opcode alone routes the
word to R-decode (0), J-decode (2, 3) or I-decode (the other 61 values). -/
def decode (w : Word32) : Except RejectClass Instr :=
  match opcodeOf w with
  | 0#6 => rDecode w
  | 2#6 => .ok (.j (targetOf w))
  | 3#6 => .ok (.jal (targetOf w))
  | _ => iDecode w

/-! ### The encoder -/

/-- A word in the R-view (R82), most significant field first. -/
def rWord (op : BitVec 6) (rs rt rd shamt : BitVec 5) (funct : BitVec 6) : Word32 :=
  op ++ rs ++ rt ++ rd ++ shamt ++ funct

/-- A word in the I-view (R83). -/
def iWord (op : BitVec 6) (rs rt : BitVec 5) (imm : BitVec 16) : Word32 :=
  op ++ rs ++ rt ++ imm

/-- A word in the J-view (R84). -/
def jWord (op : BitVec 6) (target : BitVec 26) : Word32 :=
  op ++ target

/-- A coprocessor conditional branch: `rs = 8`, `rt = xxx` and the two selector bits (R281). -/
def copBranchWord (op : BitVec 6) (x : BitVec 3) (sel : BitVec 2) (imm : BitVec 16) : Word32 :=
  iWord op 8#5 (x ++ sel) imm

/-- A floating-point form: `fmt = 1mmmm`, `ft`, `fs`, `fd` and the function code (R85, R283). -/
def floatWord (m : BitVec 4) (ft fs fd : BitVec 5) (funct : BitVec 6) : Word32 :=
  rWord 17#6 (1#1 ++ m) ft fs fd funct

/-- A floating-point compare: `imm = fs xxx 0011 cond` (R284, R315). -/
def compareWord (m : BitVec 4) (ft fs : BitVec 5) (x : BitVec 3) (cond : BitVec 4) : Word32 :=
  iWord 17#6 (1#1 ++ m) ft (fs ++ x ++ 3#4 ++ cond)

/-- A coprocessor move: `imm = rd` and eleven zero bits (R286). -/
def copMoveWord (op : BitVec 6) (rs rt rd : BitVec 5) : Word32 :=
  iWord op rs rt (rd ++ 0#11)

/-- The word of an instruction, from the encodings of R150 to R344: the inverse of `decode` on well-formed
instructions. -/
def encode : Instr → Word32
  | .nopSll rd rt => rWord 0#6 0#5 rt rd 0#5 0#6
  | .sll rd rt shamt => rWord 0#6 0#5 rt rd shamt 0#6
  | .srl rd rt shamt => rWord 0#6 0#5 rt rd shamt 2#6
  | .sra rd rt shamt => rWord 0#6 0#5 rt rd shamt 3#6
  | .sllv rd rt rs => rWord 0#6 rs rt rd 0#5 4#6
  | .srlv rd rt rs => rWord 0#6 rs rt rd 0#5 6#6
  | .srav rd rt rs => rWord 0#6 rs rt rd 0#5 7#6
  | .jr rs => rWord 0#6 rs 0#5 0#5 0#5 8#6
  | .jalr rd rs => rWord 0#6 rs 0#5 rd 0#5 9#6
  | .syscall code => jWord 0#6 (code ++ 12#6)
  | .brk code => jWord 0#6 (code ++ 13#6)
  | .nopSync bits => jWord 0#6 (bits ++ 15#6)
  | .mfhi rd => rWord 0#6 0#5 0#5 rd 0#5 16#6
  | .mthi rs => rWord 0#6 rs 0#5 0#5 0#5 17#6
  | .mflo rd => rWord 0#6 0#5 0#5 rd 0#5 18#6
  | .mtlo rs => rWord 0#6 rs 0#5 0#5 0#5 19#6
  | .dsllv rd rt rs => rWord 0#6 rs rt rd 0#5 20#6
  | .dsrlv rd rt rs => rWord 0#6 rs rt rd 0#5 22#6
  | .dsrav rd rt rs => rWord 0#6 rs rt rd 0#5 23#6
  | .mult rs rt => rWord 0#6 rs rt 0#5 0#5 24#6
  | .multu rs rt => rWord 0#6 rs rt 0#5 0#5 25#6
  | .div rs rt => rWord 0#6 rs rt 0#5 0#5 26#6
  | .divu rs rt => rWord 0#6 rs rt 0#5 0#5 27#6
  | .dmult rs rt => rWord 0#6 rs rt 0#5 0#5 28#6
  | .dmultu rs rt => rWord 0#6 rs rt 0#5 0#5 29#6
  | .ddiv rs rt => rWord 0#6 rs rt 0#5 0#5 30#6
  | .ddivu rs rt => rWord 0#6 rs rt 0#5 0#5 31#6
  | .add rd rs rt => rWord 0#6 rs rt rd 0#5 32#6
  | .move rd rs => rWord 0#6 rs 0#5 rd 0#5 33#6
  | .addu rd rs rt => rWord 0#6 rs rt rd 0#5 33#6
  | .sub rd rs rt => rWord 0#6 rs rt rd 0#5 34#6
  | .subu rd rs rt => rWord 0#6 rs rt rd 0#5 35#6
  | .and rd rs rt => rWord 0#6 rs rt rd 0#5 36#6
  | .or rd rs rt => rWord 0#6 rs rt rd 0#5 37#6
  | .xor rd rs rt => rWord 0#6 rs rt rd 0#5 38#6
  | .nor rd rs rt => rWord 0#6 rs rt rd 0#5 39#6
  | .slt rd rs rt => rWord 0#6 rs rt rd 0#5 42#6
  | .sltu rd rs rt => rWord 0#6 rs rt rd 0#5 43#6
  | .dadd rd rs rt => rWord 0#6 rs rt rd 0#5 44#6
  | .daddu rd rs rt => rWord 0#6 rs rt rd 0#5 45#6
  | .dsub rd rs rt => rWord 0#6 rs rt rd 0#5 46#6
  | .dsubu rd rs rt => rWord 0#6 rs rt rd 0#5 47#6
  | .tge rs rt code => iWord 0#6 rs rt (code ++ 48#6)
  | .tgeu rs rt code => iWord 0#6 rs rt (code ++ 49#6)
  | .tlt rs rt code => iWord 0#6 rs rt (code ++ 50#6)
  | .tltu rs rt code => iWord 0#6 rs rt (code ++ 51#6)
  | .teq rs rt code => iWord 0#6 rs rt (code ++ 52#6)
  | .tne rs rt code => iWord 0#6 rs rt (code ++ 54#6)
  | .dsll rd rt shamt => rWord 0#6 0#5 rt rd shamt 56#6
  | .dsrl rd rt shamt => rWord 0#6 0#5 rt rd shamt 58#6
  | .dsra rd rt shamt => rWord 0#6 0#5 rt rd shamt 59#6
  | .dsll32 rd rt shamt => rWord 0#6 0#5 rt rd shamt 60#6
  | .dsrl32 rd rt shamt => rWord 0#6 0#5 rt rd shamt 62#6
  | .dsra32 rd rt shamt => rWord 0#6 0#5 rt rd shamt 63#6
  | .beq rs rt imm => iWord 4#6 rs rt imm
  | .bne rs rt imm => iWord 5#6 rs rt imm
  | .blez rs imm => iWord 6#6 rs 0#5 imm
  | .bgtz rs imm => iWord 7#6 rs 0#5 imm
  | .addi rt rs imm => iWord 8#6 rs rt imm
  | .addiu rt rs imm => iWord 9#6 rs rt imm
  | .slti rt rs imm => iWord 10#6 rs rt imm
  | .sltiu rt rs imm => iWord 11#6 rs rt imm
  | .andi rt rs imm => iWord 12#6 rs rt imm
  | .ori rt rs imm => iWord 13#6 rs rt imm
  | .xori rt rs imm => iWord 14#6 rs rt imm
  | .lui rt imm => iWord 15#6 0#5 rt imm
  | .beql rs rt imm => iWord 20#6 rs rt imm
  | .bnel rs rt imm => iWord 21#6 rs rt imm
  | .daddi rt rs imm => iWord 24#6 rs rt imm
  | .daddiu rt rs imm => iWord 25#6 rs rt imm
  | .lb rt imm rs => iWord 32#6 rs rt imm
  | .lh rt imm rs => iWord 33#6 rs rt imm
  | .lwl rt imm rs => iWord 34#6 rs rt imm
  | .lw rt imm rs => iWord 35#6 rs rt imm
  | .lbu rt imm rs => iWord 36#6 rs rt imm
  | .lhu rt imm rs => iWord 37#6 rs rt imm
  | .lwr rt imm rs => iWord 38#6 rs rt imm
  | .lwu rt imm rs => iWord 39#6 rs rt imm
  | .sb rt imm rs => iWord 40#6 rs rt imm
  | .sh rt imm rs => iWord 41#6 rs rt imm
  | .swl rt imm rs => iWord 42#6 rs rt imm
  | .sw rt imm rs => iWord 43#6 rs rt imm
  | .swr rt imm rs => iWord 46#6 rs rt imm
  | .cache op imm rs => iWord 47#6 rs op imm
  | .lwc1 ft imm rs => iWord 49#6 rs ft imm
  | .ldc1 ft imm rs => iWord 53#6 rs ft imm
  | .ld rt imm rs => iWord 55#6 rs rt imm
  | .swc1 ft imm rs => iWord 57#6 rs ft imm
  | .sdc1 ft imm rs => iWord 61#6 rs ft imm
  | .bltz rs imm => iWord 1#6 rs 0#5 imm
  | .bgez rs imm => iWord 1#6 rs 1#5 imm
  | .bltzl rs imm => iWord 1#6 rs 2#5 imm
  | .bgezl rs imm => iWord 1#6 rs 3#5 imm
  | .tgei rs imm => iWord 1#6 rs 8#5 imm
  | .tgeiu rs imm => iWord 1#6 rs 9#5 imm
  | .tlti rs imm => iWord 1#6 rs 10#5 imm
  | .tltiu rs imm => iWord 1#6 rs 11#5 imm
  | .teqi rs imm => iWord 1#6 rs 12#5 imm
  | .tnei rs imm => iWord 1#6 rs 14#5 imm
  | .bltzal rs imm => iWord 1#6 rs 16#5 imm
  | .bgezal rs imm => iWord 1#6 rs 17#5 imm
  | .bltzall rs imm => iWord 1#6 rs 18#5 imm
  | .bgezall rs imm => iWord 1#6 rs 19#5 imm
  | .bc0f x imm => copBranchWord 16#6 x 0#2 imm
  | .bc0t x imm => copBranchWord 16#6 x 1#2 imm
  | .bc0fl x imm => copBranchWord 16#6 x 2#2 imm
  | .bc0tl x imm => copBranchWord 16#6 x 3#2 imm
  | .bc1f x imm => copBranchWord 17#6 x 0#2 imm
  | .bc1t x imm => copBranchWord 17#6 x 1#2 imm
  | .bc1fl x imm => copBranchWord 17#6 x 2#2 imm
  | .bc1tl x imm => copBranchWord 17#6 x 3#2 imm
  | .bc2f x imm => copBranchWord 18#6 x 0#2 imm
  | .bc2t x imm => copBranchWord 18#6 x 1#2 imm
  | .bc2fl x imm => copBranchWord 18#6 x 2#2 imm
  | .bc2tl x imm => copBranchWord 18#6 x 3#2 imm
  | .addFmt m fd fs ft => floatWord m ft fs fd 0#6
  | .subFmt m fd fs ft => floatWord m ft fs fd 1#6
  | .mulFmt m fd fs ft => floatWord m ft fs fd 2#6
  | .divFmt m fd fs ft => floatWord m ft fs fd 3#6
  | .sqrtFmt m fd fs => floatWord m 0#5 fs fd 4#6
  | .negFmt m fd fs => floatWord m 0#5 fs fd 7#6
  | .roundWFmt m fd fs => floatWord m 0#5 fs fd 12#6
  | .truncWFmt m fd fs => floatWord m 0#5 fs fd 13#6
  | .ceilWFmt m fd fs => floatWord m 0#5 fs fd 14#6
  | .floorWFmt m fd fs => floatWord m 0#5 fs fd 15#6
  | .cvtSFmt m fd fs => floatWord m 0#5 fs fd 32#6
  | .cvtDFmt m fd fs => floatWord m 0#5 fs fd 33#6
  | .cvtWFmt m fd fs => floatWord m 0#5 fs fd 36#6
  | .cCondFmt m cond fs ft x => compareWord m ft fs x cond
  | .mfc0 rt rd => copMoveWord 16#6 0#5 rt rd
  | .dmfc0 rt rd => copMoveWord 16#6 1#5 rt rd
  | .cfc0 rt rd => copMoveWord 16#6 2#5 rt rd
  | .mtc0 rt rd => copMoveWord 16#6 4#5 rt rd
  | .dmtc0 rt rd => copMoveWord 16#6 5#5 rt rd
  | .ctc0 rt rd => copMoveWord 16#6 6#5 rt rd
  | .mfc1 rt rd => copMoveWord 17#6 0#5 rt rd
  | .dmfc1 rt rd => copMoveWord 17#6 1#5 rt rd
  | .cfc1 rt rd => copMoveWord 17#6 2#5 rt rd
  | .mtc1 rt rd => copMoveWord 17#6 4#5 rt rd
  | .dmtc1 rt rd => copMoveWord 17#6 5#5 rt rd
  | .ctc1 rt rd => copMoveWord 17#6 6#5 rt rd
  | .mfc2 rt rd => copMoveWord 18#6 0#5 rt rd
  | .dmfc2 rt rd => copMoveWord 18#6 1#5 rt rd
  | .cfc2 rt rd => copMoveWord 18#6 2#5 rt rd
  | .mtc2 rt rd => copMoveWord 18#6 4#5 rt rd
  | .dmtc2 rt rd => copMoveWord 18#6 5#5 rt rd
  | .ctc2 rt rd => copMoveWord 18#6 6#5 rt rd
  | .j target => jWord 2#6 target
  | .jal target => jWord 3#6 target

/-! ### Bytes (R52) -/

/-- The four bytes of a word, lowest offset first. -/
def wordBytes (order : ByteOrder) (w : Word32) : List Byte :=
  let b0 := w.extractLsb' 24 8
  let b1 := w.extractLsb' 16 8
  let b2 := w.extractLsb' 8 8
  let b3 := w.extractLsb' 0 8
  match order with
  | .big => [b0, b1, b2, b3]
  | .little => [b3, b2, b1, b0]

/-- `ImgRead32`'s assembly of four bytes, lowest offset first, into a word. -/
def assembleWord (order : ByteOrder) (b0 b1 b2 b3 : Byte) : Word32 :=
  match order with
  | .big => b0 ++ b1 ++ b2 ++ b3
  | .little => b3 ++ b2 ++ b1 ++ b0

/-- Why a byte sequence gives no instruction. -/
inductive BytesReject where
  /-- fewer than four bytes are left: no word is decoded (R56, R425) -/
  | endOfData
  /-- the decoder rejects the word, with its class (R421) -/
  | rejected (cls : RejectClass)
  deriving DecidableEq, Repr

/-- The decoder on bytes, lowest offset first: the instruction and the bytes after it. -/
def decodeBytes (order : ByteOrder) : List Byte → Except BytesReject (Instr × List Byte)
  | b0 :: b1 :: b2 :: b3 :: rest =>
    match decode (assembleWord order b0 b1 b2 b3) with
    | .ok i => .ok (i, rest)
    | .error c => .error (.rejected c)
  | _ => .error .endOfData

/-- The word whose low `nbits` bits are those of `w` and whose other bits are zero. -/
def tableWord (nbits w : Nat) : Word32 := BitVec.ofNat 32 (w % 2 ^ nbits)

/-- The instruction the decoder reads from an opcode-table word, laid out as image bytes in the default byte
order (R52). -/
def decodeTableWord (nbits w : Nat) : Option Instr :=
  match decodeBytes .big (wordBytes .big (tableWord nbits w)) with
  | .ok (i, _) => some i
  | .error _ => none

end Sys2Proof
end

