-- ==== Sys2Proof/Machine/State.lean ====
section
/-! DEFINITION. The state of the block: `ScanState` (`10_state.md` R20), the inputs that are constant for a scan
(R28, R32, `47_scanner.md` R361), the output record stream (R371) and one field of the model's own. -/

namespace Sys2Proof.Machine

/-- The scanner's two states (R21, R360); the encoding 0, 1 is D17's. -/
inductive Fsm where
  | scanning
  | halted
  deriving DecidableEq, Repr

/-- One output record (R371): the values before the advance. -/
structure Record where
  programCounter : Word32
  offset : Word32
  word : Word32
  insn : Insn
  deriving DecidableEq, Repr

/-- Why a step can stop with a fault. The spec gives the block no fault of its own (R420, R428: a rejection is
the normal end of a scan, a `next` state here). -/
inductive Fault where
  /-- Raised by `imgRead32` for a word that does not lie wholly inside the image, an address the spec says the
  block never reads (R52, R56). Safe: it stops where no behaviour is given, and the bounds test keeps every
  step away from it (log entry 8). -/
  | imageReadOutside
  deriving DecidableEq, Repr

/-- Why a step can be refused. -/
inductive Refusal where
  /-- Raised by an arm of `exec` whose instruction has no meaning yet. Safe: nothing is claimed of it. No arm
  raises it. -/
  | notModelled (mnemonic : String)
  deriving DecidableEq, Repr

/-- The state. -/
structure State where
  /-- R21 -/
  fsm : Fsm
  /-- R22: the address assigned to the word at `offset` -/
  programCounter : Word32
  /-- R23: the read offset -/
  offset : Word32
  /-- R24 -/
  jumpCount : Word32
  /-- R25 -/
  branchCount : Word32
  /-- R26: `boundaryOffset` has been set -/
  boundaryValid : Bool
  /-- R26: meaningful only when `boundaryValid` -/
  boundaryOffset : Word32
  /-- R26: meaningful only when `boundaryValid` -/
  binaryStart : Word32
  /-- input (R28, R361): the declared entry address -/
  entryAddress : Word32
  /-- input (R28, R361): the declared scan-start offset -/
  scanStart : Word32
  /-- input (R50, R361): the number of bytes of the image, fewer than 2^32 (R7; log entries 16 and 21) -/
  imageSize : Word32
  /-- input (R52): `BYTE_ORDER` -/
  byteOrder : ByteOrder
  /-- input (R50): the image, as the bytes that are not zero, offsets strictly rising (log entry 5) -/
  image : List Host.Cell
  /-- output (R371): the records emitted so far in this scan, oldest first (log entry 6) -/
  records : List Record
  /-- the model's own: how many free values have been drawn (log entry 1) -/
  freeIndex : Nat
  deriving DecidableEq, Repr

/-- Right after reset (R33, R450), with the inputs the environment has not yet given at the values of log
entries 2 to 4: no image, entry address 0, the deployed scan start. -/
def State.reset : State where
  fsm := .scanning
  programCounter := 0#32
  offset := Config.bootCodeEnd
  jumpCount := 0#32
  branchCount := 0#32
  boundaryValid := false
  boundaryOffset := 0#32
  binaryStart := 0#32
  entryAddress := 0#32
  scanStart := Config.bootCodeEnd
  imageSize := 0#32
  byteOrder := .big
  image := []
  records := []
  freeIndex := 0

/-- What a step answers. -/
abbrev Outcome := Host.Outcome State Fault Refusal

end Sys2Proof.Machine
end

