-- ==== Sys2Proof/Machine/Flags.lean ====
section
/-! DEFINITION. The block has no arithmetic flags (`10_state.md` R29). Its one-bit marks per decoded word are the
two that drive the event counters (`47_scanner.md` R368, R369). -/

namespace Sys2Proof.Machine

/-- `form == J`: the word was accepted by J-decode and counts as a jump (R24, R368). -/
def countsJump (insn : Insn) : Bool := insn.form == .J

/-- `ubranch`: the word is the unconditional-branch pattern and counts as a branch (R25, R369). -/
def countsBranch (insn : Insn) : Bool := insn.ubranch

/-- An event counter after one word: one more when the mark is set, 32 bits (R431, D13). -/
def bumped (mark : Bool) (count : Word32) : Word32 := if mark then count + 1#32 else count

end Sys2Proof.Machine
end

