-- ==== Sys2Proof/Machine/Operands.lean ====
section
/-! DEFINITION. Values computed from the fields of a word: the two target formulas (`30_encoding.md` R86, R87) and
the two readings of an immediate (R88), all modulo 2^32 (R10); and the operand lists of the mnemonics
(`48_text_output.md` R398). -/

namespace Sys2Proof.Machine

/-- `sext_32(imm)` (R10, R88) -/
def signedImm (imm : BitVec 16) : Word32 := imm.signExtend 32

/-- `zext_32(imm)` (R10, R88) -/
def unsignedImm (imm : BitVec 16) : Word32 := imm.zeroExtend 32

/-- `BranchTarget(pc, imm) = (pc + 4) + (sext_32(imm) << 2)` (R86, R212); `pc` is the address of the branch
word itself. -/
def branchTarget (pc : Word32) (imm : BitVec 16) : Word32 :=
  (pc + 4#32) + (signedImm imm <<< 2)

/-- `JumpTarget(pc, target)`: the top four bits of `pc + 4`, the 26 target bits, two zero bits (R87, R341). -/
def jumpTarget (pc : Word32) (target : BitVec 26) : Word32 :=
  (pc + 4#32).extractLsb' 28 4 ++ target ++ 0#2

/-- The unconditional-branch pattern of an opcode-4 word: both register fields zero (R214). -/
def isUnconditional (rs rt : BitVec 5) : Bool := rs == 0#5 && rt == 0#5

/-- The format tag of a floating-point form: `fmt = 1mmmm` (R85, R282). -/
def formatTag (m : BitVec 4) : BitVec 5 := 1#1 ++ m

/-! ### Operand lists -/

/-- The operands a line can show (R393 to R398), and so an entry of a decode table can name (R140). -/
inductive Operand where
  /-- general register names (R121) -/
  | rs
  | rt
  | rd
  /-- the shift amount, unsigned decimal (R398) -/
  | shamt
  /-- the immediate (R396) -/
  | imm
  /-- the target of a branch or jump (R394) -/
  | target
  /-- `immediate(base)` (R395) -/
  | memory
  /-- `rt` as a decimal number, the operation of `cache` (R395) -/
  | opNumber
  /-- floating register names (R122), at the positions of R85 -/
  | fd
  | fs
  | ft
  /-- `rd` of a coprocessor-0 or coprocessor-2 move, `$` and a decimal number (R393) -/
  | copRegister
  deriving DecidableEq, Repr

/-- The operands of each mnemonic of R99 in printing order (R398, and the operand list of each instruction's rule). -/
def operandsOf : Mnemonic → List Operand
  | .sll | .srl | .sra | .dsll | .dsrl | .dsra | .dsll32 | .dsrl32 | .dsra32 => [.rd, .rt, .shamt]
  | .sllv | .srlv | .srav | .dsllv | .dsrlv | .dsrav => [.rd, .rt, .rs]
  | .jr | .mthi | .mtlo => [.rs]
  | .jalr | .move => [.rd, .rs]
  | .mfhi | .mflo => [.rd]
  | .mult | .multu | .div | .divu | .dmult | .dmultu | .ddiv | .ddivu | .tge | .tgeu | .tlt
  | .tltu | .teq | .tne => [.rs, .rt]
  | .add | .addu | .sub | .subu | .and | .or | .xor | .nor | .slt | .sltu | .dadd | .daddu
  | .dsub | .dsubu => [.rd, .rs, .rt]
  | .nop | .sync | .syscall | .brk => []
  | .beq | .bne | .beql | .bnel => [.rs, .rt, .target]
  | .blez | .bgtz | .bltz | .bgez | .bltzl | .bgezl | .bltzal | .bgezal | .bltzall | .bgezall => [.rs, .target]
  | .addi | .addiu | .slti | .sltiu | .andi | .ori | .xori | .daddi | .daddiu => [.rt, .rs, .imm]
  | .lui => [.rt, .imm]
  | .lb | .lh | .lwl | .lw | .lbu | .lhu | .lwr | .lwu | .sb | .sh | .swl | .sw | .swr | .ld => [.rt, .memory]
  | .lwc1 | .ldc1 | .swc1 | .sdc1 => [.ft, .memory]
  | .cache => [.opNumber, .memory]
  | .tgei | .tgeiu | .tlti | .tltiu | .teqi | .tnei => [.rs, .imm]
  | .bc0f | .bc0t | .bc0fl | .bc0tl | .bc1f | .bc1t | .bc1fl | .bc1tl | .bc2f | .bc2t | .bc2fl
  | .bc2tl | .j | .jal => [.target]
  | .addFmt | .subFmt | .mulFmt | .divFmt => [.fd, .fs, .ft]
  | .sqrtFmt | .negFmt | .roundWFmt | .truncWFmt | .ceilWFmt | .floorWFmt | .cvtSFmt | .cvtDFmt
  | .cvtWFmt => [.fd, .fs]
  | .cCondFmt => [.fs, .ft]
  | .mfc0 | .dmfc0 | .cfc0 | .mtc0 | .dmtc0 | .ctc0 | .mfc2 | .dmfc2 | .cfc2 | .mtc2 | .dmtc2
  | .ctc2 => [.rt, .copRegister]
  | .mfc1 | .dmfc1 | .cfc1 | .mtc1 | .dmtc1 | .ctc1 => [.rt, .fs]

end Sys2Proof.Machine
end

