-- ==== Sys2Proof/Machine/Ops.lean ====
section
/-! DEFINITION. The named operations over the image and the scanner's state: the image read (`20_memory.md`),
what an accepted word does (`47_scanner.md` R365, R368, R369, R371), what a rejection or the end of data does,
which is the block's whole exception entry (R366, R367, `60_exceptions.md` R426), and the reset that starts a
scan, its only way back (R427, `70_reset_and_hazards.md` R450). -/

namespace Sys2Proof.Machine

/-! ### The image -/

/-- What a byte of the image that is not listed reads as (log entry 5). -/
def Memory.unlisted : Byte := 0#8

/-- One byte of the image. -/
def Memory.readByte : List Host.Cell → Nat → Byte
  | [], _ => Memory.unlisted
  | (a, b) :: rest, addr => if addr = a then b else Memory.readByte rest addr

/-- The cell list with `addr` holding `b`, addresses kept rising; a byte that reads the same unlisted is not
listed. Only the environment writes the image, before a scan (R54, R451). -/
def Memory.writeByte : List Host.Cell → Nat → Byte → List Host.Cell
  | [], addr, b => if b = Memory.unlisted then [] else [(addr, b)]
  | (a, c) :: rest, addr, b =>
    if addr < a then
      if b = Memory.unlisted then (a, c) :: rest else (addr, b) :: (a, c) :: rest
    else if addr = a then
      if b = Memory.unlisted then rest else (addr, b) :: rest
    else (a, c) :: Memory.writeByte rest addr b

/-- Consecutive bytes written from `addr` on. -/
def Memory.writeBytes : List Host.Cell → Nat → List Byte → List Host.Cell
  | mem, _, [] => mem
  | mem, addr, b :: bs => Memory.writeBytes (Memory.writeByte mem addr b) (addr + 1) bs

/-- Every address of the list is at least `low`, they rise strictly, and no listed byte reads the same
unlisted. -/
def Memory.wfFrom : Nat → List Host.Cell → Bool
  | _, [] => true
  | low, (a, b) :: rest => decide (low ≤ a) && b != Memory.unlisted && Memory.wfFrom (a + 1) rest

/-- The canonical form of an image. -/
def Memory.wf (mem : List Host.Cell) : Bool := Memory.wfFrom 0 mem

/-- The image of a list of bytes, from offset `addr` on, in canonical form. -/
def Memory.ofBytesFrom : Nat → List Byte → List Host.Cell
  | _, [] => []
  | addr, b :: bs =>
    if b = Memory.unlisted then Memory.ofBytesFrom (addr + 1) bs
    else (addr, b) :: Memory.ofBytesFrom (addr + 1) bs

/-- The image whose byte at offset `k` is the `k`-th of the list. -/
def Memory.ofBytes (bytes : List Byte) : List Host.Cell := Memory.ofBytesFrom 0 bytes

/-- The end-of-data test, on natural numbers (R10, R56): no whole word is left at `off`. -/
def endOfData (s : State) (off : Nat) : Bool := decide (off + 4 > s.imageSize.toNat)

/-- `ImgRead32(off)` (R52): four bytes of the image in the scan's byte order. Defined for a word that lies
inside the image, whatever its alignment (log entry 7); `none` for any other. -/
def imgRead32 (s : State) (off : Nat) : Option Word32 :=
  if endOfData s off then none
  else
    some (assembleWord s.byteOrder (Memory.readByte s.image off) (Memory.readByte s.image (off + 1))
      (Memory.readByte s.image (off + 2)) (Memory.readByte s.image (off + 3)))

/-! ### An accepted word -/

/-- The state after `Accepted(insn)` (R363, R365): one record with the values before the advance (R371), the
counters (R368, R369), the program counter modulo 2^32, the offset by one word. -/
def State.accepted (s : State) (insn : Insn) : State :=
  { s with
    records := s.records ++ [⟨s.programCounter, s.offset, insn.w, insn⟩]
    jumpCount := bumped (countsJump insn) s.jumpCount
    branchCount := bumped (countsBranch insn) s.branchCount
    programCounter := s.programCounter + 4#32
    offset := s.offset + 4#32 }

/-- An accepted R-form word: no target, `ubranch = 0` (R148). -/
def acceptR (mn : Mnemonic) (via : Option Mnemonic) (w : Word32) (s : State) : Outcome :=
  .next (s.accepted ⟨mn, .R, w, none, via, false⟩)

/-- An accepted I-form word that is no branch: no target (R219, R260, R289). -/
def acceptI (mn : Mnemonic) (w : Word32) (s : State) : Outcome :=
  .next (s.accepted ⟨mn, .I, w, none, none, false⟩)

/-- An accepted branch-class word: the target of R212, and the mark of R214. -/
def acceptBranch (mn : Mnemonic) (w : Word32) (imm : BitVec 16) (ubranch : Bool) (s : State) : Outcome :=
  .next (s.accepted ⟨mn, .I, w, some (branchTarget s.programCounter imm), none, ubranch⟩)

/-- An accepted J-form word: the target of R341. -/
def acceptJ (mn : Mnemonic) (w : Word32) (target : BitVec 26) (s : State) : Outcome :=
  .next (s.accepted ⟨mn, .J, w, some (jumpTarget s.programCounter target), none, false⟩)

/-! ### Rejection, end of data, and the start of a scan -/

/-- The boundary below offset 4 has no value the spec states (R374, U4). -/
def boundaryOpen (s : State) : Bool := decide (s.offset.toNat < 4)

/-- `boundary_offset` on halting: `offset - 4`, or the free value where that would be negative (R366, R374). -/
def haltBoundary (s : State) : Word32 :=
  if boundaryOpen s then Config.freeBoundaryOffset s.freeIndex else s.offset - 4#32

/-- `Halt(S)` of R363: what a rejected word of any class and the end of data do, and all they do (R366, R367,
R426). The model's own counter moves past the free value it used. -/
def State.haltScan (s : State) : State :=
  { s with
    fsm := .halted
    boundaryOffset := haltBoundary s
    binaryStart := s.offset
    boundaryValid := true
    freeIndex := if boundaryOpen s then s.freeIndex + 1 else s.freeIndex }

/-- A reset: the initial state for the inputs that `s` holds (R33, R362, R450), the only way to start a scan and
the only way to leave Halted (R427). The two values the spec leaves unspecified are those of log entry 3; the
output stream of the new scan is empty (R455). -/
def State.startScan (s : State) : State :=
  { s with
    fsm := .scanning
    programCounter := s.entryAddress
    offset := s.scanStart
    jumpCount := 0#32
    branchCount := 0#32
    boundaryValid := false
    boundaryOffset := 0#32
    binaryStart := 0#32
    records := [] }

/-- The environment gives the inputs of a scan (R361, R451) and resets the block. DESIGN CHOICE (log entry 21,
unsafe): an image of 2^32 bytes or more is outside the spec's domain (R7, D13; U8 "refuse", no behaviour given). This
function is total and does not refuse it: it gives it the size modulo 2^32. The refusal is a precondition: nothing
is stated of this function but for fewer than 2^32 bytes. -/
def State.ofInputs (bytes : List Byte) (entryAddress scanStart : Word32) (order : ByteOrder) : State :=
  State.startScan
    { State.reset with
      image := Memory.ofBytes bytes
      imageSize := BitVec.ofNat 32 bytes.length
      entryAddress := entryAddress
      scanStart := scanStart
      byteOrder := order }

end Sys2Proof.Machine
end

