-- ==== Sys2Proof/Machine/CopBranch.lean ====
section
/-! DEFINITION. Coprocessor branch meanings (`44_iform_cop.md` R290 to R301). The block recognises an instruction and
executes nothing (`00_scope.md` R6): the meaning of each is what the scanner does when it accepts the word
(`47_scanner.md` R363, R365). Each carries the target of R212; none touches a counter (R281, R289). -/

namespace Sys2Proof.Machine

/-- `bc0f` (R290) -/
def execBc0f (x : BitVec 3) (imm : BitVec 16) (s : State) : Outcome :=
  acceptBranch .bc0f (encode (.bc0f x imm)) imm false s

/-- `bc0t` (R291) -/
def execBc0t (x : BitVec 3) (imm : BitVec 16) (s : State) : Outcome :=
  acceptBranch .bc0t (encode (.bc0t x imm)) imm false s

/-- `bc0fl` (R292) -/
def execBc0fl (x : BitVec 3) (imm : BitVec 16) (s : State) : Outcome :=
  acceptBranch .bc0fl (encode (.bc0fl x imm)) imm false s

/-- `bc0tl` (R293) -/
def execBc0tl (x : BitVec 3) (imm : BitVec 16) (s : State) : Outcome :=
  acceptBranch .bc0tl (encode (.bc0tl x imm)) imm false s

/-- `bc1f` (R294) -/
def execBc1f (x : BitVec 3) (imm : BitVec 16) (s : State) : Outcome :=
  acceptBranch .bc1f (encode (.bc1f x imm)) imm false s

/-- `bc1t` (R295) -/
def execBc1t (x : BitVec 3) (imm : BitVec 16) (s : State) : Outcome :=
  acceptBranch .bc1t (encode (.bc1t x imm)) imm false s

/-- `bc1fl` (R296) -/
def execBc1fl (x : BitVec 3) (imm : BitVec 16) (s : State) : Outcome :=
  acceptBranch .bc1fl (encode (.bc1fl x imm)) imm false s

/-- `bc1tl` (R297) -/
def execBc1tl (x : BitVec 3) (imm : BitVec 16) (s : State) : Outcome :=
  acceptBranch .bc1tl (encode (.bc1tl x imm)) imm false s

/-- `bc2f` (R298) -/
def execBc2f (x : BitVec 3) (imm : BitVec 16) (s : State) : Outcome :=
  acceptBranch .bc2f (encode (.bc2f x imm)) imm false s

/-- `bc2t` (R299) -/
def execBc2t (x : BitVec 3) (imm : BitVec 16) (s : State) : Outcome :=
  acceptBranch .bc2t (encode (.bc2t x imm)) imm false s

/-- `bc2fl` (R300) -/
def execBc2fl (x : BitVec 3) (imm : BitVec 16) (s : State) : Outcome :=
  acceptBranch .bc2fl (encode (.bc2fl x imm)) imm false s

/-- `bc2tl` (R301) -/
def execBc2tl (x : BitVec 3) (imm : BitVec 16) (s : State) : Outcome :=
  acceptBranch .bc2tl (encode (.bc2tl x imm)) imm false s

end Sys2Proof.Machine
end

