-- ==== Sys2Proof/Machine/CopFloat.lean ====
section
/-! DEFINITION. Floating-point meanings (`44_iform_cop.md` R302 to R315). The block recognises an instruction and
executes nothing (`00_scope.md` R6): the meaning of each is what the scanner does when it accepts the word
(`47_scanner.md` R363, R365). Every format tag is accepted alike (R285); no target, no counter (R289). -/

namespace Sys2Proof.Machine

/-- `add.fmt` (R302) -/
def execAddFmt (m : BitVec 4) (fd fs ft : BitVec 5) (s : State) : Outcome :=
  acceptI .addFmt (encode (.addFmt m fd fs ft)) s

/-- `sub.fmt` (R303) -/
def execSubFmt (m : BitVec 4) (fd fs ft : BitVec 5) (s : State) : Outcome :=
  acceptI .subFmt (encode (.subFmt m fd fs ft)) s

/-- `mul.fmt` (R304) -/
def execMulFmt (m : BitVec 4) (fd fs ft : BitVec 5) (s : State) : Outcome :=
  acceptI .mulFmt (encode (.mulFmt m fd fs ft)) s

/-- `div.fmt` (R305) -/
def execDivFmt (m : BitVec 4) (fd fs ft : BitVec 5) (s : State) : Outcome :=
  acceptI .divFmt (encode (.divFmt m fd fs ft)) s

/-- `sqrt.fmt` (R306) -/
def execSqrtFmt (m : BitVec 4) (fd fs : BitVec 5) (s : State) : Outcome :=
  acceptI .sqrtFmt (encode (.sqrtFmt m fd fs)) s

/-- `neg.fmt` (R307) -/
def execNegFmt (m : BitVec 4) (fd fs : BitVec 5) (s : State) : Outcome :=
  acceptI .negFmt (encode (.negFmt m fd fs)) s

/-- `round.w.fmt` (R308) -/
def execRoundWFmt (m : BitVec 4) (fd fs : BitVec 5) (s : State) : Outcome :=
  acceptI .roundWFmt (encode (.roundWFmt m fd fs)) s

/-- `trunc.w.fmt` (R309) -/
def execTruncWFmt (m : BitVec 4) (fd fs : BitVec 5) (s : State) : Outcome :=
  acceptI .truncWFmt (encode (.truncWFmt m fd fs)) s

/-- `ceil.w.fmt` (R310) -/
def execCeilWFmt (m : BitVec 4) (fd fs : BitVec 5) (s : State) : Outcome :=
  acceptI .ceilWFmt (encode (.ceilWFmt m fd fs)) s

/-- `floor.w.fmt` (R311) -/
def execFloorWFmt (m : BitVec 4) (fd fs : BitVec 5) (s : State) : Outcome :=
  acceptI .floorWFmt (encode (.floorWFmt m fd fs)) s

/-- `cvt.s.fmt` (R312) -/
def execCvtSFmt (m : BitVec 4) (fd fs : BitVec 5) (s : State) : Outcome :=
  acceptI .cvtSFmt (encode (.cvtSFmt m fd fs)) s

/-- `cvt.d.fmt` (R313) -/
def execCvtDFmt (m : BitVec 4) (fd fs : BitVec 5) (s : State) : Outcome :=
  acceptI .cvtDFmt (encode (.cvtDFmt m fd fs)) s

/-- `cvt.w.fmt` (R314) -/
def execCvtWFmt (m : BitVec 4) (fd fs : BitVec 5) (s : State) : Outcome :=
  acceptI .cvtWFmt (encode (.cvtWFmt m fd fs)) s

/-- `c.cond.fmt` (R315) -/
def execCCondFmt (m cond : BitVec 4) (fs ft : BitVec 5) (x : BitVec 3) (s : State) : Outcome :=
  acceptI .cCondFmt (encode (.cCondFmt m cond fs ft x)) s

end Sys2Proof.Machine
end

