-- ==== Sys2Proof/Machine/CopMove.lean ====
section
/-! DEFINITION. Coprocessor move meanings (`44_iform_cop.md` R316 to R333). The block recognises an instruction and
executes nothing (`00_scope.md` R6): the meaning of each is what the scanner does when it accepts the word
(`47_scanner.md` R363, R365). One set for the three coprocessor ids (R286); no target, no counter (R289). -/

namespace Sys2Proof.Machine

/-- `mfc0` (R316) -/
def execMfc0 (rt rd : BitVec 5) (s : State) : Outcome :=
  acceptI .mfc0 (encode (.mfc0 rt rd)) s

/-- `dmfc0` (R317) -/
def execDmfc0 (rt rd : BitVec 5) (s : State) : Outcome :=
  acceptI .dmfc0 (encode (.dmfc0 rt rd)) s

/-- `cfc0` (R318) -/
def execCfc0 (rt rd : BitVec 5) (s : State) : Outcome :=
  acceptI .cfc0 (encode (.cfc0 rt rd)) s

/-- `mtc0` (R319) -/
def execMtc0 (rt rd : BitVec 5) (s : State) : Outcome :=
  acceptI .mtc0 (encode (.mtc0 rt rd)) s

/-- `dmtc0` (R320) -/
def execDmtc0 (rt rd : BitVec 5) (s : State) : Outcome :=
  acceptI .dmtc0 (encode (.dmtc0 rt rd)) s

/-- `ctc0` (R321) -/
def execCtc0 (rt rd : BitVec 5) (s : State) : Outcome :=
  acceptI .ctc0 (encode (.ctc0 rt rd)) s

/-- `mfc1` (R322) -/
def execMfc1 (rt rd : BitVec 5) (s : State) : Outcome :=
  acceptI .mfc1 (encode (.mfc1 rt rd)) s

/-- `dmfc1` (R323) -/
def execDmfc1 (rt rd : BitVec 5) (s : State) : Outcome :=
  acceptI .dmfc1 (encode (.dmfc1 rt rd)) s

/-- `cfc1` (R324) -/
def execCfc1 (rt rd : BitVec 5) (s : State) : Outcome :=
  acceptI .cfc1 (encode (.cfc1 rt rd)) s

/-- `mtc1` (R325) -/
def execMtc1 (rt rd : BitVec 5) (s : State) : Outcome :=
  acceptI .mtc1 (encode (.mtc1 rt rd)) s

/-- `dmtc1` (R326) -/
def execDmtc1 (rt rd : BitVec 5) (s : State) : Outcome :=
  acceptI .dmtc1 (encode (.dmtc1 rt rd)) s

/-- `ctc1` (R327) -/
def execCtc1 (rt rd : BitVec 5) (s : State) : Outcome :=
  acceptI .ctc1 (encode (.ctc1 rt rd)) s

/-- `mfc2` (R328) -/
def execMfc2 (rt rd : BitVec 5) (s : State) : Outcome :=
  acceptI .mfc2 (encode (.mfc2 rt rd)) s

/-- `dmfc2` (R329) -/
def execDmfc2 (rt rd : BitVec 5) (s : State) : Outcome :=
  acceptI .dmfc2 (encode (.dmfc2 rt rd)) s

/-- `cfc2` (R330) -/
def execCfc2 (rt rd : BitVec 5) (s : State) : Outcome :=
  acceptI .cfc2 (encode (.cfc2 rt rd)) s

/-- `mtc2` (R331) -/
def execMtc2 (rt rd : BitVec 5) (s : State) : Outcome :=
  acceptI .mtc2 (encode (.mtc2 rt rd)) s

/-- `dmtc2` (R332) -/
def execDmtc2 (rt rd : BitVec 5) (s : State) : Outcome :=
  acceptI .dmtc2 (encode (.dmtc2 rt rd)) s

/-- `ctc2` (R333) -/
def execCtc2 (rt rd : BitVec 5) (s : State) : Outcome :=
  acceptI .ctc2 (encode (.ctc2 rt rd)) s

end Sys2Proof.Machine
end

