-- ==== Sys2Proof/Machine/IForm.lean ====
section
/-! DEFINITION. I-form meanings, the directly mapped opcodes (`42_iform.md` R220 to R254). The block recognises an instruction and
executes nothing (`00_scope.md` R6): the meaning of each is what the scanner does when it accepts the word
(`47_scanner.md` R363, R365). A branch carries the target of R212 and moves nothing but the program counter's fixed step (R213); a memory
form performs no access (R215). -/

namespace Sys2Proof.Machine

/-- `beq` (R220) -/
def execBeq (rs rt : BitVec 5) (imm : BitVec 16) (s : State) : Outcome :=
  acceptBranch .beq (encode (.beq rs rt imm)) imm (isUnconditional rs rt) s

/-- `bne` (R221) -/
def execBne (rs rt : BitVec 5) (imm : BitVec 16) (s : State) : Outcome :=
  acceptBranch .bne (encode (.bne rs rt imm)) imm false s

/-- `blez` (R222) -/
def execBlez (rs : BitVec 5) (imm : BitVec 16) (s : State) : Outcome :=
  acceptBranch .blez (encode (.blez rs imm)) imm false s

/-- `bgtz` (R223) -/
def execBgtz (rs : BitVec 5) (imm : BitVec 16) (s : State) : Outcome :=
  acceptBranch .bgtz (encode (.bgtz rs imm)) imm false s

/-- `addi` (R224) -/
def execAddi (rt rs : BitVec 5) (imm : BitVec 16) (s : State) : Outcome :=
  acceptI .addi (encode (.addi rt rs imm)) s

/-- `addiu` (R225) -/
def execAddiu (rt rs : BitVec 5) (imm : BitVec 16) (s : State) : Outcome :=
  acceptI .addiu (encode (.addiu rt rs imm)) s

/-- `slti` (R226) -/
def execSlti (rt rs : BitVec 5) (imm : BitVec 16) (s : State) : Outcome :=
  acceptI .slti (encode (.slti rt rs imm)) s

/-- `sltiu` (R227) -/
def execSltiu (rt rs : BitVec 5) (imm : BitVec 16) (s : State) : Outcome :=
  acceptI .sltiu (encode (.sltiu rt rs imm)) s

/-- `andi` (R228) -/
def execAndi (rt rs : BitVec 5) (imm : BitVec 16) (s : State) : Outcome :=
  acceptI .andi (encode (.andi rt rs imm)) s

/-- `ori` (R229) -/
def execOri (rt rs : BitVec 5) (imm : BitVec 16) (s : State) : Outcome :=
  acceptI .ori (encode (.ori rt rs imm)) s

/-- `xori` (R230) -/
def execXori (rt rs : BitVec 5) (imm : BitVec 16) (s : State) : Outcome :=
  acceptI .xori (encode (.xori rt rs imm)) s

/-- `lui` (R231) -/
def execLui (rt : BitVec 5) (imm : BitVec 16) (s : State) : Outcome :=
  acceptI .lui (encode (.lui rt imm)) s

/-- `beql` (R232) -/
def execBeql (rs rt : BitVec 5) (imm : BitVec 16) (s : State) : Outcome :=
  acceptBranch .beql (encode (.beql rs rt imm)) imm false s

/-- `bnel` (R233) -/
def execBnel (rs rt : BitVec 5) (imm : BitVec 16) (s : State) : Outcome :=
  acceptBranch .bnel (encode (.bnel rs rt imm)) imm false s

/-- `daddi` (R234) -/
def execDaddi (rt rs : BitVec 5) (imm : BitVec 16) (s : State) : Outcome :=
  acceptI .daddi (encode (.daddi rt rs imm)) s

/-- `daddiu` (R235) -/
def execDaddiu (rt rs : BitVec 5) (imm : BitVec 16) (s : State) : Outcome :=
  acceptI .daddiu (encode (.daddiu rt rs imm)) s

/-- `lb` (R236) -/
def execLb (rt : BitVec 5) (imm : BitVec 16) (rs : BitVec 5) (s : State) : Outcome :=
  acceptI .lb (encode (.lb rt imm rs)) s

/-- `lh` (R237) -/
def execLh (rt : BitVec 5) (imm : BitVec 16) (rs : BitVec 5) (s : State) : Outcome :=
  acceptI .lh (encode (.lh rt imm rs)) s

/-- `lwl` (R238) -/
def execLwl (rt : BitVec 5) (imm : BitVec 16) (rs : BitVec 5) (s : State) : Outcome :=
  acceptI .lwl (encode (.lwl rt imm rs)) s

/-- `lw` (R239) -/
def execLw (rt : BitVec 5) (imm : BitVec 16) (rs : BitVec 5) (s : State) : Outcome :=
  acceptI .lw (encode (.lw rt imm rs)) s

/-- `lbu` (R240) -/
def execLbu (rt : BitVec 5) (imm : BitVec 16) (rs : BitVec 5) (s : State) : Outcome :=
  acceptI .lbu (encode (.lbu rt imm rs)) s

/-- `lhu` (R241) -/
def execLhu (rt : BitVec 5) (imm : BitVec 16) (rs : BitVec 5) (s : State) : Outcome :=
  acceptI .lhu (encode (.lhu rt imm rs)) s

/-- `lwr` (R242) -/
def execLwr (rt : BitVec 5) (imm : BitVec 16) (rs : BitVec 5) (s : State) : Outcome :=
  acceptI .lwr (encode (.lwr rt imm rs)) s

/-- `lwu` (R243) -/
def execLwu (rt : BitVec 5) (imm : BitVec 16) (rs : BitVec 5) (s : State) : Outcome :=
  acceptI .lwu (encode (.lwu rt imm rs)) s

/-- `sb` (R244) -/
def execSb (rt : BitVec 5) (imm : BitVec 16) (rs : BitVec 5) (s : State) : Outcome :=
  acceptI .sb (encode (.sb rt imm rs)) s

/-- `sh` (R245) -/
def execSh (rt : BitVec 5) (imm : BitVec 16) (rs : BitVec 5) (s : State) : Outcome :=
  acceptI .sh (encode (.sh rt imm rs)) s

/-- `swl` (R246) -/
def execSwl (rt : BitVec 5) (imm : BitVec 16) (rs : BitVec 5) (s : State) : Outcome :=
  acceptI .swl (encode (.swl rt imm rs)) s

/-- `sw` (R247) -/
def execSw (rt : BitVec 5) (imm : BitVec 16) (rs : BitVec 5) (s : State) : Outcome :=
  acceptI .sw (encode (.sw rt imm rs)) s

/-- `swr` (R248) -/
def execSwr (rt : BitVec 5) (imm : BitVec 16) (rs : BitVec 5) (s : State) : Outcome :=
  acceptI .swr (encode (.swr rt imm rs)) s

/-- `cache` (R249) -/
def execCache (op : BitVec 5) (imm : BitVec 16) (rs : BitVec 5) (s : State) : Outcome :=
  acceptI .cache (encode (.cache op imm rs)) s

/-- `lwc1` (R250) -/
def execLwc1 (ft : BitVec 5) (imm : BitVec 16) (rs : BitVec 5) (s : State) : Outcome :=
  acceptI .lwc1 (encode (.lwc1 ft imm rs)) s

/-- `ldc1` (R251) -/
def execLdc1 (ft : BitVec 5) (imm : BitVec 16) (rs : BitVec 5) (s : State) : Outcome :=
  acceptI .ldc1 (encode (.ldc1 ft imm rs)) s

/-- `ld` (R252) -/
def execLd (rt : BitVec 5) (imm : BitVec 16) (rs : BitVec 5) (s : State) : Outcome :=
  acceptI .ld (encode (.ld rt imm rs)) s

/-- `swc1` (R253) -/
def execSwc1 (ft : BitVec 5) (imm : BitVec 16) (rs : BitVec 5) (s : State) : Outcome :=
  acceptI .swc1 (encode (.swc1 ft imm rs)) s

/-- `sdc1` (R254) -/
def execSdc1 (ft : BitVec 5) (imm : BitVec 16) (rs : BitVec 5) (s : State) : Outcome :=
  acceptI .sdc1 (encode (.sdc1 ft imm rs)) s

end Sys2Proof.Machine
end

