-- ==== Sys2Proof/Machine/JForm.lean ====
section
/-! DEFINITION. J-form meanings (`45_jform.md` R343, R344). The block recognises an instruction and
executes nothing (`00_scope.md` R6): the meaning of each is what the scanner does when it accepts the word
(`47_scanner.md` R363, R365). Each carries the target of R341 and counts as a jump (R368); the program counter still advances by 4. -/

namespace Sys2Proof.Machine

/-- `j` (R343) -/
def execJ (target : BitVec 26) (s : State) : Outcome :=
  acceptJ .j (encode (.j target)) target s

/-- `jal` (R344) -/
def execJal (target : BitVec 26) (s : State) : Outcome :=
  acceptJ .jal (encode (.jal target)) target s

end Sys2Proof.Machine
end

