-- ==== Sys2Proof/Machine/RForm.lean ====
section
/-! DEFINITION. R-form meanings (`41_rform.md` R150 to R201). The block recognises an instruction and
executes nothing (`00_scope.md` R6): the meaning of each is what the scanner does when it accepts the word
(`47_scanner.md` R363, R365). An accepted R-form word is recorded under its mnemonic, changes no counter, also `jr` and `jalr`, and carries
no target (R148). -/

namespace Sys2Proof.Machine

/-- `nop`, via `sll` (R150) -/
def execNopSll (rd rt : BitVec 5) (s : State) : Outcome :=
  acceptR .nop (some .sll) (encode (.nopSll rd rt)) s

/-- `sll` (R150) -/
def execSll (rd rt shamt : BitVec 5) (s : State) : Outcome :=
  acceptR .sll none (encode (.sll rd rt shamt)) s

/-- `srl` (R151) -/
def execSrl (rd rt shamt : BitVec 5) (s : State) : Outcome :=
  acceptR .srl none (encode (.srl rd rt shamt)) s

/-- `sra` (R152) -/
def execSra (rd rt shamt : BitVec 5) (s : State) : Outcome :=
  acceptR .sra none (encode (.sra rd rt shamt)) s

/-- `sllv` (R153) -/
def execSllv (rd rt rs : BitVec 5) (s : State) : Outcome :=
  acceptR .sllv none (encode (.sllv rd rt rs)) s

/-- `srlv` (R154) -/
def execSrlv (rd rt rs : BitVec 5) (s : State) : Outcome :=
  acceptR .srlv none (encode (.srlv rd rt rs)) s

/-- `srav` (R155) -/
def execSrav (rd rt rs : BitVec 5) (s : State) : Outcome :=
  acceptR .srav none (encode (.srav rd rt rs)) s

/-- `jr` (R156) -/
def execJr (rs : BitVec 5) (s : State) : Outcome :=
  acceptR .jr none (encode (.jr rs)) s

/-- `jalr` (R157) -/
def execJalr (rd rs : BitVec 5) (s : State) : Outcome :=
  acceptR .jalr none (encode (.jalr rd rs)) s

/-- `syscall` (R158) -/
def execSyscall (code : BitVec 20) (s : State) : Outcome :=
  acceptR .syscall none (encode (.syscall code)) s

/-- `break` (R159) -/
def execBrk (code : BitVec 20) (s : State) : Outcome :=
  acceptR .brk none (encode (.brk code)) s

/-- `nop`, via `sync` (R160) -/
def execNopSync (bits : BitVec 20) (s : State) : Outcome :=
  acceptR .nop (some .sync) (encode (.nopSync bits)) s

/-- `mfhi` (R161) -/
def execMfhi (rd : BitVec 5) (s : State) : Outcome :=
  acceptR .mfhi none (encode (.mfhi rd)) s

/-- `mthi` (R162) -/
def execMthi (rs : BitVec 5) (s : State) : Outcome :=
  acceptR .mthi none (encode (.mthi rs)) s

/-- `mflo` (R163) -/
def execMflo (rd : BitVec 5) (s : State) : Outcome :=
  acceptR .mflo none (encode (.mflo rd)) s

/-- `mtlo` (R164) -/
def execMtlo (rs : BitVec 5) (s : State) : Outcome :=
  acceptR .mtlo none (encode (.mtlo rs)) s

/-- `dsllv` (R165) -/
def execDsllv (rd rt rs : BitVec 5) (s : State) : Outcome :=
  acceptR .dsllv none (encode (.dsllv rd rt rs)) s

/-- `dsrlv` (R166) -/
def execDsrlv (rd rt rs : BitVec 5) (s : State) : Outcome :=
  acceptR .dsrlv none (encode (.dsrlv rd rt rs)) s

/-- `dsrav` (R167) -/
def execDsrav (rd rt rs : BitVec 5) (s : State) : Outcome :=
  acceptR .dsrav none (encode (.dsrav rd rt rs)) s

/-- `mult` (R168) -/
def execMult (rs rt : BitVec 5) (s : State) : Outcome :=
  acceptR .mult none (encode (.mult rs rt)) s

/-- `multu` (R169) -/
def execMultu (rs rt : BitVec 5) (s : State) : Outcome :=
  acceptR .multu none (encode (.multu rs rt)) s

/-- `div` (R170) -/
def execDiv (rs rt : BitVec 5) (s : State) : Outcome :=
  acceptR .div none (encode (.div rs rt)) s

/-- `divu` (R171) -/
def execDivu (rs rt : BitVec 5) (s : State) : Outcome :=
  acceptR .divu none (encode (.divu rs rt)) s

/-- `dmult` (R172) -/
def execDmult (rs rt : BitVec 5) (s : State) : Outcome :=
  acceptR .dmult none (encode (.dmult rs rt)) s

/-- `dmultu` (R173) -/
def execDmultu (rs rt : BitVec 5) (s : State) : Outcome :=
  acceptR .dmultu none (encode (.dmultu rs rt)) s

/-- `ddiv` (R174) -/
def execDdiv (rs rt : BitVec 5) (s : State) : Outcome :=
  acceptR .ddiv none (encode (.ddiv rs rt)) s

/-- `ddivu` (R175) -/
def execDdivu (rs rt : BitVec 5) (s : State) : Outcome :=
  acceptR .ddivu none (encode (.ddivu rs rt)) s

/-- `add` (R176) -/
def execAdd (rd rs rt : BitVec 5) (s : State) : Outcome :=
  acceptR .add none (encode (.add rd rs rt)) s

/-- `move`, via `addu` (R177) -/
def execMove (rd rs : BitVec 5) (s : State) : Outcome :=
  acceptR .move (some .addu) (encode (.move rd rs)) s

/-- `addu` (R177) -/
def execAddu (rd rs rt : BitVec 5) (s : State) : Outcome :=
  acceptR .addu none (encode (.addu rd rs rt)) s

/-- `sub` (R178) -/
def execSub (rd rs rt : BitVec 5) (s : State) : Outcome :=
  acceptR .sub none (encode (.sub rd rs rt)) s

/-- `subu` (R179) -/
def execSubu (rd rs rt : BitVec 5) (s : State) : Outcome :=
  acceptR .subu none (encode (.subu rd rs rt)) s

/-- `and` (R180) -/
def execAnd (rd rs rt : BitVec 5) (s : State) : Outcome :=
  acceptR .and none (encode (.and rd rs rt)) s

/-- `or` (R181) -/
def execOr (rd rs rt : BitVec 5) (s : State) : Outcome :=
  acceptR .or none (encode (.or rd rs rt)) s

/-- `xor` (R182) -/
def execXor (rd rs rt : BitVec 5) (s : State) : Outcome :=
  acceptR .xor none (encode (.xor rd rs rt)) s

/-- `nor` (R183) -/
def execNor (rd rs rt : BitVec 5) (s : State) : Outcome :=
  acceptR .nor none (encode (.nor rd rs rt)) s

/-- `slt` (R184) -/
def execSlt (rd rs rt : BitVec 5) (s : State) : Outcome :=
  acceptR .slt none (encode (.slt rd rs rt)) s

/-- `sltu` (R185) -/
def execSltu (rd rs rt : BitVec 5) (s : State) : Outcome :=
  acceptR .sltu none (encode (.sltu rd rs rt)) s

/-- `dadd` (R186) -/
def execDadd (rd rs rt : BitVec 5) (s : State) : Outcome :=
  acceptR .dadd none (encode (.dadd rd rs rt)) s

/-- `daddu` (R187) -/
def execDaddu (rd rs rt : BitVec 5) (s : State) : Outcome :=
  acceptR .daddu none (encode (.daddu rd rs rt)) s

/-- `dsub` (R188) -/
def execDsub (rd rs rt : BitVec 5) (s : State) : Outcome :=
  acceptR .dsub none (encode (.dsub rd rs rt)) s

/-- `dsubu` (R189) -/
def execDsubu (rd rs rt : BitVec 5) (s : State) : Outcome :=
  acceptR .dsubu none (encode (.dsubu rd rs rt)) s

/-- `tge` (R190) -/
def execTge (rs rt : BitVec 5) (code : BitVec 10) (s : State) : Outcome :=
  acceptR .tge none (encode (.tge rs rt code)) s

/-- `tgeu` (R191) -/
def execTgeu (rs rt : BitVec 5) (code : BitVec 10) (s : State) : Outcome :=
  acceptR .tgeu none (encode (.tgeu rs rt code)) s

/-- `tlt` (R192) -/
def execTlt (rs rt : BitVec 5) (code : BitVec 10) (s : State) : Outcome :=
  acceptR .tlt none (encode (.tlt rs rt code)) s

/-- `tltu` (R193) -/
def execTltu (rs rt : BitVec 5) (code : BitVec 10) (s : State) : Outcome :=
  acceptR .tltu none (encode (.tltu rs rt code)) s

/-- `teq` (R194) -/
def execTeq (rs rt : BitVec 5) (code : BitVec 10) (s : State) : Outcome :=
  acceptR .teq none (encode (.teq rs rt code)) s

/-- `tne` (R195) -/
def execTne (rs rt : BitVec 5) (code : BitVec 10) (s : State) : Outcome :=
  acceptR .tne none (encode (.tne rs rt code)) s

/-- `dsll` (R196) -/
def execDsll (rd rt shamt : BitVec 5) (s : State) : Outcome :=
  acceptR .dsll none (encode (.dsll rd rt shamt)) s

/-- `dsrl` (R197) -/
def execDsrl (rd rt shamt : BitVec 5) (s : State) : Outcome :=
  acceptR .dsrl none (encode (.dsrl rd rt shamt)) s

/-- `dsra` (R198) -/
def execDsra (rd rt shamt : BitVec 5) (s : State) : Outcome :=
  acceptR .dsra none (encode (.dsra rd rt shamt)) s

/-- `dsll32` (R199) -/
def execDsll32 (rd rt shamt : BitVec 5) (s : State) : Outcome :=
  acceptR .dsll32 none (encode (.dsll32 rd rt shamt)) s

/-- `dsrl32` (R200) -/
def execDsrl32 (rd rt shamt : BitVec 5) (s : State) : Outcome :=
  acceptR .dsrl32 none (encode (.dsrl32 rd rt shamt)) s

/-- `dsra32` (R201) -/
def execDsra32 (rd rt shamt : BitVec 5) (s : State) : Outcome :=
  acceptR .dsra32 none (encode (.dsra32 rd rt shamt)) s

end Sys2Proof.Machine
end

