-- ==== Sys2Proof/Machine/Regimm.lean ====
section
/-! DEFINITION. Regimm meanings (`43_iform_regimm.md` R261 to R274). The block recognises an instruction and
executes nothing (`00_scope.md` R6): the meaning of each is what the scanner does when it accepts the word
(`47_scanner.md` R363, R365). The eight branches carry the target of R212; no entry touches a counter (R260). -/

namespace Sys2Proof.Machine

/-- `bltz` (R261) -/
def execBltz (rs : BitVec 5) (imm : BitVec 16) (s : State) : Outcome :=
  acceptBranch .bltz (encode (.bltz rs imm)) imm false s

/-- `bgez` (R262) -/
def execBgez (rs : BitVec 5) (imm : BitVec 16) (s : State) : Outcome :=
  acceptBranch .bgez (encode (.bgez rs imm)) imm false s

/-- `bltzl` (R263) -/
def execBltzl (rs : BitVec 5) (imm : BitVec 16) (s : State) : Outcome :=
  acceptBranch .bltzl (encode (.bltzl rs imm)) imm false s

/-- `bgezl` (R264) -/
def execBgezl (rs : BitVec 5) (imm : BitVec 16) (s : State) : Outcome :=
  acceptBranch .bgezl (encode (.bgezl rs imm)) imm false s

/-- `tgei` (R265) -/
def execTgei (rs : BitVec 5) (imm : BitVec 16) (s : State) : Outcome :=
  acceptI .tgei (encode (.tgei rs imm)) s

/-- `tgeiu` (R266) -/
def execTgeiu (rs : BitVec 5) (imm : BitVec 16) (s : State) : Outcome :=
  acceptI .tgeiu (encode (.tgeiu rs imm)) s

/-- `tlti` (R267) -/
def execTlti (rs : BitVec 5) (imm : BitVec 16) (s : State) : Outcome :=
  acceptI .tlti (encode (.tlti rs imm)) s

/-- `tltiu` (R268) -/
def execTltiu (rs : BitVec 5) (imm : BitVec 16) (s : State) : Outcome :=
  acceptI .tltiu (encode (.tltiu rs imm)) s

/-- `teqi` (R269) -/
def execTeqi (rs : BitVec 5) (imm : BitVec 16) (s : State) : Outcome :=
  acceptI .teqi (encode (.teqi rs imm)) s

/-- `tnei` (R270) -/
def execTnei (rs : BitVec 5) (imm : BitVec 16) (s : State) : Outcome :=
  acceptI .tnei (encode (.tnei rs imm)) s

/-- `bltzal` (R271) -/
def execBltzal (rs : BitVec 5) (imm : BitVec 16) (s : State) : Outcome :=
  acceptBranch .bltzal (encode (.bltzal rs imm)) imm false s

/-- `bgezal` (R272) -/
def execBgezal (rs : BitVec 5) (imm : BitVec 16) (s : State) : Outcome :=
  acceptBranch .bgezal (encode (.bgezal rs imm)) imm false s

/-- `bltzall` (R273) -/
def execBltzall (rs : BitVec 5) (imm : BitVec 16) (s : State) : Outcome :=
  acceptBranch .bltzall (encode (.bltzall rs imm)) imm false s

/-- `bgezall` (R274) -/
def execBgezall (rs : BitVec 5) (imm : BitVec 16) (s : State) : Outcome :=
  acceptBranch .bgezall (encode (.bgezall rs imm)) imm false s

end Sys2Proof.Machine
end

