-- ==== Sys2Proof/Machine/Dispatch.lean ====
section
/-! DEFINITION. The meaning of an instruction: one arm per constructor of `Instr`. -/

namespace Sys2Proof.Machine

def exec (i : Instr) (s : State) : Host.Outcome State Fault Refusal :=
  match i with
  | .nopSll rd rt => Sys2Proof.Machine.execNopSll rd rt s
  | .sll rd rt shamt => Sys2Proof.Machine.execSll rd rt shamt s
  | .srl rd rt shamt => Sys2Proof.Machine.execSrl rd rt shamt s
  | .sra rd rt shamt => Sys2Proof.Machine.execSra rd rt shamt s
  | .sllv rd rt rs => Sys2Proof.Machine.execSllv rd rt rs s
  | .srlv rd rt rs => Sys2Proof.Machine.execSrlv rd rt rs s
  | .srav rd rt rs => Sys2Proof.Machine.execSrav rd rt rs s
  | .jr rs => Sys2Proof.Machine.execJr rs s
  | .jalr rd rs => Sys2Proof.Machine.execJalr rd rs s
  | .syscall code => Sys2Proof.Machine.execSyscall code s
  | .brk code => Sys2Proof.Machine.execBrk code s
  | .nopSync bits => Sys2Proof.Machine.execNopSync bits s
  | .mfhi rd => Sys2Proof.Machine.execMfhi rd s
  | .mthi rs => Sys2Proof.Machine.execMthi rs s
  | .mflo rd => Sys2Proof.Machine.execMflo rd s
  | .mtlo rs => Sys2Proof.Machine.execMtlo rs s
  | .dsllv rd rt rs => Sys2Proof.Machine.execDsllv rd rt rs s
  | .dsrlv rd rt rs => Sys2Proof.Machine.execDsrlv rd rt rs s
  | .dsrav rd rt rs => Sys2Proof.Machine.execDsrav rd rt rs s
  | .mult rs rt => Sys2Proof.Machine.execMult rs rt s
  | .multu rs rt => Sys2Proof.Machine.execMultu rs rt s
  | .div rs rt => Sys2Proof.Machine.execDiv rs rt s
  | .divu rs rt => Sys2Proof.Machine.execDivu rs rt s
  | .dmult rs rt => Sys2Proof.Machine.execDmult rs rt s
  | .dmultu rs rt => Sys2Proof.Machine.execDmultu rs rt s
  | .ddiv rs rt => Sys2Proof.Machine.execDdiv rs rt s
  | .ddivu rs rt => Sys2Proof.Machine.execDdivu rs rt s
  | .add rd rs rt => Sys2Proof.Machine.execAdd rd rs rt s
  | .move rd rs => Sys2Proof.Machine.execMove rd rs s
  | .addu rd rs rt => Sys2Proof.Machine.execAddu rd rs rt s
  | .sub rd rs rt => Sys2Proof.Machine.execSub rd rs rt s
  | .subu rd rs rt => Sys2Proof.Machine.execSubu rd rs rt s
  | .and rd rs rt => Sys2Proof.Machine.execAnd rd rs rt s
  | .or rd rs rt => Sys2Proof.Machine.execOr rd rs rt s
  | .xor rd rs rt => Sys2Proof.Machine.execXor rd rs rt s
  | .nor rd rs rt => Sys2Proof.Machine.execNor rd rs rt s
  | .slt rd rs rt => Sys2Proof.Machine.execSlt rd rs rt s
  | .sltu rd rs rt => Sys2Proof.Machine.execSltu rd rs rt s
  | .dadd rd rs rt => Sys2Proof.Machine.execDadd rd rs rt s
  | .daddu rd rs rt => Sys2Proof.Machine.execDaddu rd rs rt s
  | .dsub rd rs rt => Sys2Proof.Machine.execDsub rd rs rt s
  | .dsubu rd rs rt => Sys2Proof.Machine.execDsubu rd rs rt s
  | .tge rs rt code => Sys2Proof.Machine.execTge rs rt code s
  | .tgeu rs rt code => Sys2Proof.Machine.execTgeu rs rt code s
  | .tlt rs rt code => Sys2Proof.Machine.execTlt rs rt code s
  | .tltu rs rt code => Sys2Proof.Machine.execTltu rs rt code s
  | .teq rs rt code => Sys2Proof.Machine.execTeq rs rt code s
  | .tne rs rt code => Sys2Proof.Machine.execTne rs rt code s
  | .dsll rd rt shamt => Sys2Proof.Machine.execDsll rd rt shamt s
  | .dsrl rd rt shamt => Sys2Proof.Machine.execDsrl rd rt shamt s
  | .dsra rd rt shamt => Sys2Proof.Machine.execDsra rd rt shamt s
  | .dsll32 rd rt shamt => Sys2Proof.Machine.execDsll32 rd rt shamt s
  | .dsrl32 rd rt shamt => Sys2Proof.Machine.execDsrl32 rd rt shamt s
  | .dsra32 rd rt shamt => Sys2Proof.Machine.execDsra32 rd rt shamt s
  | .beq rs rt imm => Sys2Proof.Machine.execBeq rs rt imm s
  | .bne rs rt imm => Sys2Proof.Machine.execBne rs rt imm s
  | .blez rs imm => Sys2Proof.Machine.execBlez rs imm s
  | .bgtz rs imm => Sys2Proof.Machine.execBgtz rs imm s
  | .addi rt rs imm => Sys2Proof.Machine.execAddi rt rs imm s
  | .addiu rt rs imm => Sys2Proof.Machine.execAddiu rt rs imm s
  | .slti rt rs imm => Sys2Proof.Machine.execSlti rt rs imm s
  | .sltiu rt rs imm => Sys2Proof.Machine.execSltiu rt rs imm s
  | .andi rt rs imm => Sys2Proof.Machine.execAndi rt rs imm s
  | .ori rt rs imm => Sys2Proof.Machine.execOri rt rs imm s
  | .xori rt rs imm => Sys2Proof.Machine.execXori rt rs imm s
  | .lui rt imm => Sys2Proof.Machine.execLui rt imm s
  | .beql rs rt imm => Sys2Proof.Machine.execBeql rs rt imm s
  | .bnel rs rt imm => Sys2Proof.Machine.execBnel rs rt imm s
  | .daddi rt rs imm => Sys2Proof.Machine.execDaddi rt rs imm s
  | .daddiu rt rs imm => Sys2Proof.Machine.execDaddiu rt rs imm s
  | .lb rt imm rs => Sys2Proof.Machine.execLb rt imm rs s
  | .lh rt imm rs => Sys2Proof.Machine.execLh rt imm rs s
  | .lwl rt imm rs => Sys2Proof.Machine.execLwl rt imm rs s
  | .lw rt imm rs => Sys2Proof.Machine.execLw rt imm rs s
  | .lbu rt imm rs => Sys2Proof.Machine.execLbu rt imm rs s
  | .lhu rt imm rs => Sys2Proof.Machine.execLhu rt imm rs s
  | .lwr rt imm rs => Sys2Proof.Machine.execLwr rt imm rs s
  | .lwu rt imm rs => Sys2Proof.Machine.execLwu rt imm rs s
  | .sb rt imm rs => Sys2Proof.Machine.execSb rt imm rs s
  | .sh rt imm rs => Sys2Proof.Machine.execSh rt imm rs s
  | .swl rt imm rs => Sys2Proof.Machine.execSwl rt imm rs s
  | .sw rt imm rs => Sys2Proof.Machine.execSw rt imm rs s
  | .swr rt imm rs => Sys2Proof.Machine.execSwr rt imm rs s
  | .cache op imm rs => Sys2Proof.Machine.execCache op imm rs s
  | .lwc1 ft imm rs => Sys2Proof.Machine.execLwc1 ft imm rs s
  | .ldc1 ft imm rs => Sys2Proof.Machine.execLdc1 ft imm rs s
  | .ld rt imm rs => Sys2Proof.Machine.execLd rt imm rs s
  | .swc1 ft imm rs => Sys2Proof.Machine.execSwc1 ft imm rs s
  | .sdc1 ft imm rs => Sys2Proof.Machine.execSdc1 ft imm rs s
  | .bltz rs imm => Sys2Proof.Machine.execBltz rs imm s
  | .bgez rs imm => Sys2Proof.Machine.execBgez rs imm s
  | .bltzl rs imm => Sys2Proof.Machine.execBltzl rs imm s
  | .bgezl rs imm => Sys2Proof.Machine.execBgezl rs imm s
  | .tgei rs imm => Sys2Proof.Machine.execTgei rs imm s
  | .tgeiu rs imm => Sys2Proof.Machine.execTgeiu rs imm s
  | .tlti rs imm => Sys2Proof.Machine.execTlti rs imm s
  | .tltiu rs imm => Sys2Proof.Machine.execTltiu rs imm s
  | .teqi rs imm => Sys2Proof.Machine.execTeqi rs imm s
  | .tnei rs imm => Sys2Proof.Machine.execTnei rs imm s
  | .bltzal rs imm => Sys2Proof.Machine.execBltzal rs imm s
  | .bgezal rs imm => Sys2Proof.Machine.execBgezal rs imm s
  | .bltzall rs imm => Sys2Proof.Machine.execBltzall rs imm s
  | .bgezall rs imm => Sys2Proof.Machine.execBgezall rs imm s
  | .bc0f x imm => Sys2Proof.Machine.execBc0f x imm s
  | .bc0t x imm => Sys2Proof.Machine.execBc0t x imm s
  | .bc0fl x imm => Sys2Proof.Machine.execBc0fl x imm s
  | .bc0tl x imm => Sys2Proof.Machine.execBc0tl x imm s
  | .bc1f x imm => Sys2Proof.Machine.execBc1f x imm s
  | .bc1t x imm => Sys2Proof.Machine.execBc1t x imm s
  | .bc1fl x imm => Sys2Proof.Machine.execBc1fl x imm s
  | .bc1tl x imm => Sys2Proof.Machine.execBc1tl x imm s
  | .bc2f x imm => Sys2Proof.Machine.execBc2f x imm s
  | .bc2t x imm => Sys2Proof.Machine.execBc2t x imm s
  | .bc2fl x imm => Sys2Proof.Machine.execBc2fl x imm s
  | .bc2tl x imm => Sys2Proof.Machine.execBc2tl x imm s
  | .addFmt m fd fs ft => Sys2Proof.Machine.execAddFmt m fd fs ft s
  | .subFmt m fd fs ft => Sys2Proof.Machine.execSubFmt m fd fs ft s
  | .mulFmt m fd fs ft => Sys2Proof.Machine.execMulFmt m fd fs ft s
  | .divFmt m fd fs ft => Sys2Proof.Machine.execDivFmt m fd fs ft s
  | .sqrtFmt m fd fs => Sys2Proof.Machine.execSqrtFmt m fd fs s
  | .negFmt m fd fs => Sys2Proof.Machine.execNegFmt m fd fs s
  | .roundWFmt m fd fs => Sys2Proof.Machine.execRoundWFmt m fd fs s
  | .truncWFmt m fd fs => Sys2Proof.Machine.execTruncWFmt m fd fs s
  | .ceilWFmt m fd fs => Sys2Proof.Machine.execCeilWFmt m fd fs s
  | .floorWFmt m fd fs => Sys2Proof.Machine.execFloorWFmt m fd fs s
  | .cvtSFmt m fd fs => Sys2Proof.Machine.execCvtSFmt m fd fs s
  | .cvtDFmt m fd fs => Sys2Proof.Machine.execCvtDFmt m fd fs s
  | .cvtWFmt m fd fs => Sys2Proof.Machine.execCvtWFmt m fd fs s
  | .cCondFmt m cond fs ft x => Sys2Proof.Machine.execCCondFmt m cond fs ft x s
  | .mfc0 rt rd => Sys2Proof.Machine.execMfc0 rt rd s
  | .dmfc0 rt rd => Sys2Proof.Machine.execDmfc0 rt rd s
  | .cfc0 rt rd => Sys2Proof.Machine.execCfc0 rt rd s
  | .mtc0 rt rd => Sys2Proof.Machine.execMtc0 rt rd s
  | .dmtc0 rt rd => Sys2Proof.Machine.execDmtc0 rt rd s
  | .ctc0 rt rd => Sys2Proof.Machine.execCtc0 rt rd s
  | .mfc1 rt rd => Sys2Proof.Machine.execMfc1 rt rd s
  | .dmfc1 rt rd => Sys2Proof.Machine.execDmfc1 rt rd s
  | .cfc1 rt rd => Sys2Proof.Machine.execCfc1 rt rd s
  | .mtc1 rt rd => Sys2Proof.Machine.execMtc1 rt rd s
  | .dmtc1 rt rd => Sys2Proof.Machine.execDmtc1 rt rd s
  | .ctc1 rt rd => Sys2Proof.Machine.execCtc1 rt rd s
  | .mfc2 rt rd => Sys2Proof.Machine.execMfc2 rt rd s
  | .dmfc2 rt rd => Sys2Proof.Machine.execDmfc2 rt rd s
  | .cfc2 rt rd => Sys2Proof.Machine.execCfc2 rt rd s
  | .mtc2 rt rd => Sys2Proof.Machine.execMtc2 rt rd s
  | .dmtc2 rt rd => Sys2Proof.Machine.execDmtc2 rt rd s
  | .ctc2 rt rd => Sys2Proof.Machine.execCtc2 rt rd s
  | .j target => Sys2Proof.Machine.execJ target s
  | .jal target => Sys2Proof.Machine.execJal target s

end Sys2Proof.Machine
end

