-- ==== Sys2Proof/Machine/Step.lean ====
section
/-! DEFINITION. One step of the scanner (`47_scanner.md` R363), and the placing of a word where the next step reads
it. -/

namespace Sys2Proof.Machine

/-- What the step does with the word it has read: an accepted instruction runs its meaning, a rejected word
halts the scan whatever its class (R355, R366). -/
def stepWord (w : Word32) (s : State) : Outcome :=
  match decode w with
  | .ok i => exec i s
  | .error _ => .next s.haltScan

/-- `Step` of R363. The bounds test comes before the read (R56, R425); Halted has no step and keeps every field
(R370, log entry 10). -/
def step (s : State) : Outcome :=
  match s.fsm with
  | .halted => .next s
  | .scanning =>
    if endOfData s s.offset.toNat then .next s.haltScan
    else
      match imgRead32 s s.offset.toNat with
      | none => .fault .imageReadOutside
      | some w => stepWord w s

/-- One clock edge of the reference interface (D17): reset wins, otherwise a step. -/
def clockEdge (rst : Bool) (s : State) : Outcome := if rst then .next s.startScan else step s

/-- The table's word placed at the read offset, in the state's byte order, the image grown to hold it and the
scanner scanning: the next step reads exactly this word (log entry 11). DESIGN CHOICE (log entry 21, unsafe): at an
offset above 2^32 - 5 the grown size would leave the domain of R7 and is taken modulo 2^32; nothing is stated of that
case. -/
def State.withFetchWord (s : State) (nbits w : Nat) : State :=
  { s with
    fsm := .scanning
    image := Memory.writeBytes s.image s.offset.toNat (wordBytes s.byteOrder (tableWord nbits w))
    imageSize :=
      if s.imageSize.toNat < s.offset.toNat + 4 then BitVec.ofNat 32 (s.offset.toNat + 4)
      else s.imageSize }

end Sys2Proof.Machine
end

