-- ==== Sys2Proof/Machine/OpcodeTable.lean ====
section
/-! DEFINITION. The opcode table itself (`30_encoding.md` R100): 149 rows of match, mask, selector and priority,
and the decoder that reads them. It is the spec's machine-readable copy of `T_default`. -/

namespace Sys2Proof.Machine

/-- A row of `spec/opcode_table.json`, as far as R100 gives its keys a meaning for decoding. `zero_mask` is the
part of the mask outside the selector on the rows that are no alias. -/
structure TableRow where
  mn : Mnemonic
  via : Option Mnemonic
  form : Form
  bits : Word32
  mask : Word32
  selBits : Word32
  selMask : Word32
  priority : Nat
  deriving DecidableEq, Repr

/-- `(w & mask) == match`: the word fits the row. -/
def TableRow.fits (r : TableRow) (w : Word32) : Bool := (w &&& r.mask) == r.bits

/-- `(w & sel_mask) == sel_match`: the word reached this entry of its dispatch table. -/
def TableRow.reached (r : TableRow) (w : Word32) : Bool := (w &&& r.selMask) == r.selBits

/-- The rows of R150 to R201. -/
def rFormRows : List TableRow :=
  [⟨.nop, some .sll, .R, 0x00000000#32, 0xFFE007FF#32, 0x00000000#32, 0xFC00003F#32, 0⟩,
   ⟨.sll, none, .R, 0x00000000#32, 0xFFE0003F#32, 0x00000000#32, 0xFC00003F#32, 1⟩,
   ⟨.srl, none, .R, 0x00000002#32, 0xFFE0003F#32, 0x00000002#32, 0xFC00003F#32, 1⟩,
   ⟨.sra, none, .R, 0x00000003#32, 0xFFE0003F#32, 0x00000003#32, 0xFC00003F#32, 1⟩,
   ⟨.sllv, none, .R, 0x00000004#32, 0xFC0007FF#32, 0x00000004#32, 0xFC00003F#32, 1⟩,
   ⟨.srlv, none, .R, 0x00000006#32, 0xFC0007FF#32, 0x00000006#32, 0xFC00003F#32, 1⟩,
   ⟨.srav, none, .R, 0x00000007#32, 0xFC0007FF#32, 0x00000007#32, 0xFC00003F#32, 1⟩,
   ⟨.jr, none, .R, 0x00000008#32, 0xFC1FFFFF#32, 0x00000008#32, 0xFC00003F#32, 1⟩,
   ⟨.jalr, none, .R, 0x00000009#32, 0xFC1F07FF#32, 0x00000009#32, 0xFC00003F#32, 1⟩,
   ⟨.syscall, none, .R, 0x0000000C#32, 0xFC00003F#32, 0x0000000C#32, 0xFC00003F#32, 1⟩,
   ⟨.brk, none, .R, 0x0000000D#32, 0xFC00003F#32, 0x0000000D#32, 0xFC00003F#32, 1⟩,
   ⟨.nop, some .sync, .R, 0x0000000F#32, 0xFC00003F#32, 0x0000000F#32, 0xFC00003F#32, 1⟩,
   ⟨.mfhi, none, .R, 0x00000010#32, 0xFFFF07FF#32, 0x00000010#32, 0xFC00003F#32, 1⟩] ++
  [⟨.mthi, none, .R, 0x00000011#32, 0xFC1FFFFF#32, 0x00000011#32, 0xFC00003F#32, 1⟩,
   ⟨.mflo, none, .R, 0x00000012#32, 0xFFFF07FF#32, 0x00000012#32, 0xFC00003F#32, 1⟩,
   ⟨.mtlo, none, .R, 0x00000013#32, 0xFC1FFFFF#32, 0x00000013#32, 0xFC00003F#32, 1⟩,
   ⟨.dsllv, none, .R, 0x00000014#32, 0xFC0007FF#32, 0x00000014#32, 0xFC00003F#32, 1⟩,
   ⟨.dsrlv, none, .R, 0x00000016#32, 0xFC0007FF#32, 0x00000016#32, 0xFC00003F#32, 1⟩,
   ⟨.dsrav, none, .R, 0x00000017#32, 0xFC0007FF#32, 0x00000017#32, 0xFC00003F#32, 1⟩,
   ⟨.mult, none, .R, 0x00000018#32, 0xFC00FFFF#32, 0x00000018#32, 0xFC00003F#32, 1⟩,
   ⟨.multu, none, .R, 0x00000019#32, 0xFC00FFFF#32, 0x00000019#32, 0xFC00003F#32, 1⟩,
   ⟨.div, none, .R, 0x0000001A#32, 0xFC00FFFF#32, 0x0000001A#32, 0xFC00003F#32, 1⟩,
   ⟨.divu, none, .R, 0x0000001B#32, 0xFC00FFFF#32, 0x0000001B#32, 0xFC00003F#32, 1⟩,
   ⟨.dmult, none, .R, 0x0000001C#32, 0xFC00FFFF#32, 0x0000001C#32, 0xFC00003F#32, 1⟩,
   ⟨.dmultu, none, .R, 0x0000001D#32, 0xFC00FFFF#32, 0x0000001D#32, 0xFC00003F#32, 1⟩,
   ⟨.ddiv, none, .R, 0x0000001E#32, 0xFC00FFFF#32, 0x0000001E#32, 0xFC00003F#32, 1⟩] ++
  [⟨.ddivu, none, .R, 0x0000001F#32, 0xFC00FFFF#32, 0x0000001F#32, 0xFC00003F#32, 1⟩,
   ⟨.add, none, .R, 0x00000020#32, 0xFC0007FF#32, 0x00000020#32, 0xFC00003F#32, 1⟩,
   ⟨.move, some .addu, .R, 0x00000021#32, 0xFC1F07FF#32, 0x00000021#32, 0xFC00003F#32, 0⟩,
   ⟨.addu, none, .R, 0x00000021#32, 0xFC0007FF#32, 0x00000021#32, 0xFC00003F#32, 1⟩,
   ⟨.sub, none, .R, 0x00000022#32, 0xFC0007FF#32, 0x00000022#32, 0xFC00003F#32, 1⟩,
   ⟨.subu, none, .R, 0x00000023#32, 0xFC0007FF#32, 0x00000023#32, 0xFC00003F#32, 1⟩,
   ⟨.and, none, .R, 0x00000024#32, 0xFC0007FF#32, 0x00000024#32, 0xFC00003F#32, 1⟩,
   ⟨.or, none, .R, 0x00000025#32, 0xFC0007FF#32, 0x00000025#32, 0xFC00003F#32, 1⟩,
   ⟨.xor, none, .R, 0x00000026#32, 0xFC0007FF#32, 0x00000026#32, 0xFC00003F#32, 1⟩,
   ⟨.nor, none, .R, 0x00000027#32, 0xFC0007FF#32, 0x00000027#32, 0xFC00003F#32, 1⟩,
   ⟨.slt, none, .R, 0x0000002A#32, 0xFC0007FF#32, 0x0000002A#32, 0xFC00003F#32, 1⟩,
   ⟨.sltu, none, .R, 0x0000002B#32, 0xFC0007FF#32, 0x0000002B#32, 0xFC00003F#32, 1⟩,
   ⟨.dadd, none, .R, 0x0000002C#32, 0xFC0007FF#32, 0x0000002C#32, 0xFC00003F#32, 1⟩] ++
  [⟨.daddu, none, .R, 0x0000002D#32, 0xFC0007FF#32, 0x0000002D#32, 0xFC00003F#32, 1⟩,
   ⟨.dsub, none, .R, 0x0000002E#32, 0xFC0007FF#32, 0x0000002E#32, 0xFC00003F#32, 1⟩,
   ⟨.dsubu, none, .R, 0x0000002F#32, 0xFC0007FF#32, 0x0000002F#32, 0xFC00003F#32, 1⟩,
   ⟨.tge, none, .R, 0x00000030#32, 0xFC00003F#32, 0x00000030#32, 0xFC00003F#32, 1⟩,
   ⟨.tgeu, none, .R, 0x00000031#32, 0xFC00003F#32, 0x00000031#32, 0xFC00003F#32, 1⟩,
   ⟨.tlt, none, .R, 0x00000032#32, 0xFC00003F#32, 0x00000032#32, 0xFC00003F#32, 1⟩,
   ⟨.tltu, none, .R, 0x00000033#32, 0xFC00003F#32, 0x00000033#32, 0xFC00003F#32, 1⟩,
   ⟨.teq, none, .R, 0x00000034#32, 0xFC00003F#32, 0x00000034#32, 0xFC00003F#32, 1⟩,
   ⟨.tne, none, .R, 0x00000036#32, 0xFC00003F#32, 0x00000036#32, 0xFC00003F#32, 1⟩,
   ⟨.dsll, none, .R, 0x00000038#32, 0xFFE0003F#32, 0x00000038#32, 0xFC00003F#32, 1⟩,
   ⟨.dsrl, none, .R, 0x0000003A#32, 0xFFE0003F#32, 0x0000003A#32, 0xFC00003F#32, 1⟩,
   ⟨.dsra, none, .R, 0x0000003B#32, 0xFFE0003F#32, 0x0000003B#32, 0xFC00003F#32, 1⟩,
   ⟨.dsll32, none, .R, 0x0000003C#32, 0xFFE0003F#32, 0x0000003C#32, 0xFC00003F#32, 1⟩] ++
  [⟨.dsrl32, none, .R, 0x0000003E#32, 0xFFE0003F#32, 0x0000003E#32, 0xFC00003F#32, 1⟩,
   ⟨.dsra32, none, .R, 0x0000003F#32, 0xFFE0003F#32, 0x0000003F#32, 0xFC00003F#32, 1⟩]

/-- The rows of R220 to R254. -/
def iFormRows : List TableRow :=
  [⟨.beq, none, .I, 0x10000000#32, 0xFC000000#32, 0x10000000#32, 0xFC000000#32, 1⟩,
   ⟨.bne, none, .I, 0x14000000#32, 0xFC000000#32, 0x14000000#32, 0xFC000000#32, 1⟩,
   ⟨.blez, none, .I, 0x18000000#32, 0xFC1F0000#32, 0x18000000#32, 0xFC000000#32, 1⟩,
   ⟨.bgtz, none, .I, 0x1C000000#32, 0xFC1F0000#32, 0x1C000000#32, 0xFC000000#32, 1⟩,
   ⟨.addi, none, .I, 0x20000000#32, 0xFC000000#32, 0x20000000#32, 0xFC000000#32, 1⟩,
   ⟨.addiu, none, .I, 0x24000000#32, 0xFC000000#32, 0x24000000#32, 0xFC000000#32, 1⟩,
   ⟨.slti, none, .I, 0x28000000#32, 0xFC000000#32, 0x28000000#32, 0xFC000000#32, 1⟩,
   ⟨.sltiu, none, .I, 0x2C000000#32, 0xFC000000#32, 0x2C000000#32, 0xFC000000#32, 1⟩,
   ⟨.andi, none, .I, 0x30000000#32, 0xFC000000#32, 0x30000000#32, 0xFC000000#32, 1⟩,
   ⟨.ori, none, .I, 0x34000000#32, 0xFC000000#32, 0x34000000#32, 0xFC000000#32, 1⟩,
   ⟨.xori, none, .I, 0x38000000#32, 0xFC000000#32, 0x38000000#32, 0xFC000000#32, 1⟩,
   ⟨.lui, none, .I, 0x3C000000#32, 0xFFE00000#32, 0x3C000000#32, 0xFC000000#32, 1⟩,
   ⟨.beql, none, .I, 0x50000000#32, 0xFC000000#32, 0x50000000#32, 0xFC000000#32, 1⟩] ++
  [⟨.bnel, none, .I, 0x54000000#32, 0xFC000000#32, 0x54000000#32, 0xFC000000#32, 1⟩,
   ⟨.daddi, none, .I, 0x60000000#32, 0xFC000000#32, 0x60000000#32, 0xFC000000#32, 1⟩,
   ⟨.daddiu, none, .I, 0x64000000#32, 0xFC000000#32, 0x64000000#32, 0xFC000000#32, 1⟩,
   ⟨.lb, none, .I, 0x80000000#32, 0xFC000000#32, 0x80000000#32, 0xFC000000#32, 1⟩,
   ⟨.lh, none, .I, 0x84000000#32, 0xFC000000#32, 0x84000000#32, 0xFC000000#32, 1⟩,
   ⟨.lwl, none, .I, 0x88000000#32, 0xFC000000#32, 0x88000000#32, 0xFC000000#32, 1⟩,
   ⟨.lw, none, .I, 0x8C000000#32, 0xFC000000#32, 0x8C000000#32, 0xFC000000#32, 1⟩,
   ⟨.lbu, none, .I, 0x90000000#32, 0xFC000000#32, 0x90000000#32, 0xFC000000#32, 1⟩,
   ⟨.lhu, none, .I, 0x94000000#32, 0xFC000000#32, 0x94000000#32, 0xFC000000#32, 1⟩,
   ⟨.lwr, none, .I, 0x98000000#32, 0xFC000000#32, 0x98000000#32, 0xFC000000#32, 1⟩,
   ⟨.lwu, none, .I, 0x9C000000#32, 0xFC000000#32, 0x9C000000#32, 0xFC000000#32, 1⟩,
   ⟨.sb, none, .I, 0xA0000000#32, 0xFC000000#32, 0xA0000000#32, 0xFC000000#32, 1⟩,
   ⟨.sh, none, .I, 0xA4000000#32, 0xFC000000#32, 0xA4000000#32, 0xFC000000#32, 1⟩] ++
  [⟨.swl, none, .I, 0xA8000000#32, 0xFC000000#32, 0xA8000000#32, 0xFC000000#32, 1⟩,
   ⟨.sw, none, .I, 0xAC000000#32, 0xFC000000#32, 0xAC000000#32, 0xFC000000#32, 1⟩,
   ⟨.swr, none, .I, 0xB8000000#32, 0xFC000000#32, 0xB8000000#32, 0xFC000000#32, 1⟩,
   ⟨.cache, none, .I, 0xBC000000#32, 0xFC000000#32, 0xBC000000#32, 0xFC000000#32, 1⟩,
   ⟨.lwc1, none, .I, 0xC4000000#32, 0xFC000000#32, 0xC4000000#32, 0xFC000000#32, 1⟩,
   ⟨.ldc1, none, .I, 0xD4000000#32, 0xFC000000#32, 0xD4000000#32, 0xFC000000#32, 1⟩,
   ⟨.ld, none, .I, 0xDC000000#32, 0xFC000000#32, 0xDC000000#32, 0xFC000000#32, 1⟩,
   ⟨.swc1, none, .I, 0xE4000000#32, 0xFC000000#32, 0xE4000000#32, 0xFC000000#32, 1⟩,
   ⟨.sdc1, none, .I, 0xF4000000#32, 0xFC000000#32, 0xF4000000#32, 0xFC000000#32, 1⟩]

/-- The rows of R261 to R274. -/
def regimmRows : List TableRow :=
  [⟨.bltz, none, .I, 0x04000000#32, 0xFC1F0000#32, 0x04000000#32, 0xFC1F0000#32, 1⟩,
   ⟨.bgez, none, .I, 0x04010000#32, 0xFC1F0000#32, 0x04010000#32, 0xFC1F0000#32, 1⟩,
   ⟨.bltzl, none, .I, 0x04020000#32, 0xFC1F0000#32, 0x04020000#32, 0xFC1F0000#32, 1⟩,
   ⟨.bgezl, none, .I, 0x04030000#32, 0xFC1F0000#32, 0x04030000#32, 0xFC1F0000#32, 1⟩,
   ⟨.tgei, none, .I, 0x04080000#32, 0xFC1F0000#32, 0x04080000#32, 0xFC1F0000#32, 1⟩,
   ⟨.tgeiu, none, .I, 0x04090000#32, 0xFC1F0000#32, 0x04090000#32, 0xFC1F0000#32, 1⟩,
   ⟨.tlti, none, .I, 0x040A0000#32, 0xFC1F0000#32, 0x040A0000#32, 0xFC1F0000#32, 1⟩,
   ⟨.tltiu, none, .I, 0x040B0000#32, 0xFC1F0000#32, 0x040B0000#32, 0xFC1F0000#32, 1⟩,
   ⟨.teqi, none, .I, 0x040C0000#32, 0xFC1F0000#32, 0x040C0000#32, 0xFC1F0000#32, 1⟩,
   ⟨.tnei, none, .I, 0x040E0000#32, 0xFC1F0000#32, 0x040E0000#32, 0xFC1F0000#32, 1⟩,
   ⟨.bltzal, none, .I, 0x04100000#32, 0xFC1F0000#32, 0x04100000#32, 0xFC1F0000#32, 1⟩,
   ⟨.bgezal, none, .I, 0x04110000#32, 0xFC1F0000#32, 0x04110000#32, 0xFC1F0000#32, 1⟩,
   ⟨.bltzall, none, .I, 0x04120000#32, 0xFC1F0000#32, 0x04120000#32, 0xFC1F0000#32, 1⟩] ++
  [⟨.bgezall, none, .I, 0x04130000#32, 0xFC1F0000#32, 0x04130000#32, 0xFC1F0000#32, 1⟩]

/-- The rows of R290 to R301. -/
def copBranchRows : List TableRow :=
  [⟨.bc0f, none, .I, 0x41000000#32, 0xFFE30000#32, 0x41000000#32, 0xFFE30000#32, 0⟩,
   ⟨.bc0t, none, .I, 0x41010000#32, 0xFFE30000#32, 0x41010000#32, 0xFFE30000#32, 0⟩,
   ⟨.bc0fl, none, .I, 0x41020000#32, 0xFFE30000#32, 0x41020000#32, 0xFFE30000#32, 0⟩,
   ⟨.bc0tl, none, .I, 0x41030000#32, 0xFFE30000#32, 0x41030000#32, 0xFFE30000#32, 0⟩,
   ⟨.bc1f, none, .I, 0x45000000#32, 0xFFE30000#32, 0x45000000#32, 0xFFE30000#32, 0⟩,
   ⟨.bc1t, none, .I, 0x45010000#32, 0xFFE30000#32, 0x45010000#32, 0xFFE30000#32, 0⟩,
   ⟨.bc1fl, none, .I, 0x45020000#32, 0xFFE30000#32, 0x45020000#32, 0xFFE30000#32, 0⟩,
   ⟨.bc1tl, none, .I, 0x45030000#32, 0xFFE30000#32, 0x45030000#32, 0xFFE30000#32, 0⟩,
   ⟨.bc2f, none, .I, 0x49000000#32, 0xFFE30000#32, 0x49000000#32, 0xFFE30000#32, 0⟩,
   ⟨.bc2t, none, .I, 0x49010000#32, 0xFFE30000#32, 0x49010000#32, 0xFFE30000#32, 0⟩,
   ⟨.bc2fl, none, .I, 0x49020000#32, 0xFFE30000#32, 0x49020000#32, 0xFFE30000#32, 0⟩,
   ⟨.bc2tl, none, .I, 0x49030000#32, 0xFFE30000#32, 0x49030000#32, 0xFFE30000#32, 0⟩]

/-- The rows of R302 to R315. -/
def copFloatRows : List TableRow :=
  [⟨.addFmt, none, .I, 0x46000000#32, 0xFE00003F#32, 0x46000000#32, 0xFE00003F#32, 1⟩,
   ⟨.subFmt, none, .I, 0x46000001#32, 0xFE00003F#32, 0x46000001#32, 0xFE00003F#32, 1⟩,
   ⟨.mulFmt, none, .I, 0x46000002#32, 0xFE00003F#32, 0x46000002#32, 0xFE00003F#32, 1⟩,
   ⟨.divFmt, none, .I, 0x46000003#32, 0xFE00003F#32, 0x46000003#32, 0xFE00003F#32, 1⟩,
   ⟨.sqrtFmt, none, .I, 0x46000004#32, 0xFE1F003F#32, 0x46000004#32, 0xFE00003F#32, 1⟩,
   ⟨.negFmt, none, .I, 0x46000007#32, 0xFE1F003F#32, 0x46000007#32, 0xFE00003F#32, 1⟩,
   ⟨.roundWFmt, none, .I, 0x4600000C#32, 0xFE1F003F#32, 0x4600000C#32, 0xFE00003F#32, 1⟩,
   ⟨.truncWFmt, none, .I, 0x4600000D#32, 0xFE1F003F#32, 0x4600000D#32, 0xFE00003F#32, 1⟩,
   ⟨.ceilWFmt, none, .I, 0x4600000E#32, 0xFE1F003F#32, 0x4600000E#32, 0xFE00003F#32, 1⟩,
   ⟨.floorWFmt, none, .I, 0x4600000F#32, 0xFE1F003F#32, 0x4600000F#32, 0xFE00003F#32, 1⟩,
   ⟨.cvtSFmt, none, .I, 0x46000020#32, 0xFE1F003F#32, 0x46000020#32, 0xFE00003F#32, 1⟩,
   ⟨.cvtDFmt, none, .I, 0x46000021#32, 0xFE1F003F#32, 0x46000021#32, 0xFE00003F#32, 1⟩,
   ⟨.cvtWFmt, none, .I, 0x46000024#32, 0xFE1F003F#32, 0x46000024#32, 0xFE00003F#32, 1⟩] ++
  [⟨.cCondFmt, none, .I, 0x46000030#32, 0xFE0000F0#32, 0x46000030#32, 0xFE0000F0#32, 1⟩]

/-- The rows of R316 to R333. -/
def copMoveRows : List TableRow :=
  [⟨.mfc0, none, .I, 0x40000000#32, 0xFFE007FF#32, 0x40000000#32, 0xFFE00000#32, 1⟩,
   ⟨.dmfc0, none, .I, 0x40200000#32, 0xFFE007FF#32, 0x40200000#32, 0xFFE00000#32, 1⟩,
   ⟨.cfc0, none, .I, 0x40400000#32, 0xFFE007FF#32, 0x40400000#32, 0xFFE00000#32, 1⟩,
   ⟨.mtc0, none, .I, 0x40800000#32, 0xFFE007FF#32, 0x40800000#32, 0xFFE00000#32, 1⟩,
   ⟨.dmtc0, none, .I, 0x40A00000#32, 0xFFE007FF#32, 0x40A00000#32, 0xFFE00000#32, 1⟩,
   ⟨.ctc0, none, .I, 0x40C00000#32, 0xFFE007FF#32, 0x40C00000#32, 0xFFE00000#32, 1⟩,
   ⟨.mfc1, none, .I, 0x44000000#32, 0xFFE007FF#32, 0x44000000#32, 0xFFE00000#32, 1⟩,
   ⟨.dmfc1, none, .I, 0x44200000#32, 0xFFE007FF#32, 0x44200000#32, 0xFFE00000#32, 1⟩,
   ⟨.cfc1, none, .I, 0x44400000#32, 0xFFE007FF#32, 0x44400000#32, 0xFFE00000#32, 1⟩,
   ⟨.mtc1, none, .I, 0x44800000#32, 0xFFE007FF#32, 0x44800000#32, 0xFFE00000#32, 1⟩,
   ⟨.dmtc1, none, .I, 0x44A00000#32, 0xFFE007FF#32, 0x44A00000#32, 0xFFE00000#32, 1⟩,
   ⟨.ctc1, none, .I, 0x44C00000#32, 0xFFE007FF#32, 0x44C00000#32, 0xFFE00000#32, 1⟩,
   ⟨.mfc2, none, .I, 0x48000000#32, 0xFFE007FF#32, 0x48000000#32, 0xFFE00000#32, 1⟩] ++
  [⟨.dmfc2, none, .I, 0x48200000#32, 0xFFE007FF#32, 0x48200000#32, 0xFFE00000#32, 1⟩,
   ⟨.cfc2, none, .I, 0x48400000#32, 0xFFE007FF#32, 0x48400000#32, 0xFFE00000#32, 1⟩,
   ⟨.mtc2, none, .I, 0x48800000#32, 0xFFE007FF#32, 0x48800000#32, 0xFFE00000#32, 1⟩,
   ⟨.dmtc2, none, .I, 0x48A00000#32, 0xFFE007FF#32, 0x48A00000#32, 0xFFE00000#32, 1⟩,
   ⟨.ctc2, none, .I, 0x48C00000#32, 0xFFE007FF#32, 0x48C00000#32, 0xFFE00000#32, 1⟩]

/-- The rows of R343 to R344. -/
def jFormRows : List TableRow :=
  [⟨.j, none, .J, 0x08000000#32, 0xFC000000#32, 0x08000000#32, 0xFC000000#32, 1⟩,
   ⟨.jal, none, .J, 0x0C000000#32, 0xFC000000#32, 0x0C000000#32, 0xFC000000#32, 1⟩]

/-- The whole table. -/
def opcodeTable : List TableRow :=
  rFormRows ++ iFormRows ++ regimmRows ++ copBranchRows ++ copFloatRows ++ copMoveRows ++ jFormRows

/-! ### The row of an instruction -/

/-- `mn` of the instruction's row. -/
def instrMnemonic : Instr → Mnemonic
  | .nopSll .. => .nop
  | .sll .. => .sll
  | .srl .. => .srl
  | .sra .. => .sra
  | .sllv .. => .sllv
  | .srlv .. => .srlv
  | .srav .. => .srav
  | .jr .. => .jr
  | .jalr .. => .jalr
  | .syscall .. => .syscall
  | .brk .. => .brk
  | .nopSync .. => .nop
  | .mfhi .. => .mfhi
  | .mthi .. => .mthi
  | .mflo .. => .mflo
  | .mtlo .. => .mtlo
  | .dsllv .. => .dsllv
  | .dsrlv .. => .dsrlv
  | .dsrav .. => .dsrav
  | .mult .. => .mult
  | .multu .. => .multu
  | .div .. => .div
  | .divu .. => .divu
  | .dmult .. => .dmult
  | .dmultu .. => .dmultu
  | .ddiv .. => .ddiv
  | .ddivu .. => .ddivu
  | .add .. => .add
  | .move .. => .move
  | .addu .. => .addu
  | .sub .. => .sub
  | .subu .. => .subu
  | .and .. => .and
  | .or .. => .or
  | .xor .. => .xor
  | .nor .. => .nor
  | .slt .. => .slt
  | .sltu .. => .sltu
  | .dadd .. => .dadd
  | .daddu .. => .daddu
  | .dsub .. => .dsub
  | .dsubu .. => .dsubu
  | .tge .. => .tge
  | .tgeu .. => .tgeu
  | .tlt .. => .tlt
  | .tltu .. => .tltu
  | .teq .. => .teq
  | .tne .. => .tne
  | .dsll .. => .dsll
  | .dsrl .. => .dsrl
  | .dsra .. => .dsra
  | .dsll32 .. => .dsll32
  | .dsrl32 .. => .dsrl32
  | .dsra32 .. => .dsra32
  | .beq .. => .beq
  | .bne .. => .bne
  | .blez .. => .blez
  | .bgtz .. => .bgtz
  | .addi .. => .addi
  | .addiu .. => .addiu
  | .slti .. => .slti
  | .sltiu .. => .sltiu
  | .andi .. => .andi
  | .ori .. => .ori
  | .xori .. => .xori
  | .lui .. => .lui
  | .beql .. => .beql
  | .bnel .. => .bnel
  | .daddi .. => .daddi
  | .daddiu .. => .daddiu
  | .lb .. => .lb
  | .lh .. => .lh
  | .lwl .. => .lwl
  | .lw .. => .lw
  | .lbu .. => .lbu
  | .lhu .. => .lhu
  | .lwr .. => .lwr
  | .lwu .. => .lwu
  | .sb .. => .sb
  | .sh .. => .sh
  | .swl .. => .swl
  | .sw .. => .sw
  | .swr .. => .swr
  | .cache .. => .cache
  | .lwc1 .. => .lwc1
  | .ldc1 .. => .ldc1
  | .ld .. => .ld
  | .swc1 .. => .swc1
  | .sdc1 .. => .sdc1
  | .bltz .. => .bltz
  | .bgez .. => .bgez
  | .bltzl .. => .bltzl
  | .bgezl .. => .bgezl
  | .tgei .. => .tgei
  | .tgeiu .. => .tgeiu
  | .tlti .. => .tlti
  | .tltiu .. => .tltiu
  | .teqi .. => .teqi
  | .tnei .. => .tnei
  | .bltzal .. => .bltzal
  | .bgezal .. => .bgezal
  | .bltzall .. => .bltzall
  | .bgezall .. => .bgezall
  | .bc0f .. => .bc0f
  | .bc0t .. => .bc0t
  | .bc0fl .. => .bc0fl
  | .bc0tl .. => .bc0tl
  | .bc1f .. => .bc1f
  | .bc1t .. => .bc1t
  | .bc1fl .. => .bc1fl
  | .bc1tl .. => .bc1tl
  | .bc2f .. => .bc2f
  | .bc2t .. => .bc2t
  | .bc2fl .. => .bc2fl
  | .bc2tl .. => .bc2tl
  | .addFmt .. => .addFmt
  | .subFmt .. => .subFmt
  | .mulFmt .. => .mulFmt
  | .divFmt .. => .divFmt
  | .sqrtFmt .. => .sqrtFmt
  | .negFmt .. => .negFmt
  | .roundWFmt .. => .roundWFmt
  | .truncWFmt .. => .truncWFmt
  | .ceilWFmt .. => .ceilWFmt
  | .floorWFmt .. => .floorWFmt
  | .cvtSFmt .. => .cvtSFmt
  | .cvtDFmt .. => .cvtDFmt
  | .cvtWFmt .. => .cvtWFmt
  | .cCondFmt .. => .cCondFmt
  | .mfc0 .. => .mfc0
  | .dmfc0 .. => .dmfc0
  | .cfc0 .. => .cfc0
  | .mtc0 .. => .mtc0
  | .dmtc0 .. => .dmtc0
  | .ctc0 .. => .ctc0
  | .mfc1 .. => .mfc1
  | .dmfc1 .. => .dmfc1
  | .cfc1 .. => .cfc1
  | .mtc1 .. => .mtc1
  | .dmtc1 .. => .dmtc1
  | .ctc1 .. => .ctc1
  | .mfc2 .. => .mfc2
  | .dmfc2 .. => .dmfc2
  | .cfc2 .. => .cfc2
  | .mtc2 .. => .mtc2
  | .dmtc2 .. => .dmtc2
  | .ctc2 .. => .ctc2
  | .j .. => .j
  | .jal .. => .jal

/-- `via` of the instruction's row: the table entry the three alias rows come from (R94). -/
def instrVia : Instr → Option Mnemonic
  | .nopSll .. => some .sll
  | .nopSync .. => some .sync
  | .move .. => some .addu
  | _ => none

/-- What the table says of a word (R100). -/
inductive TableAnswer where
  /-- the word fits; the row is the fitting one of lowest priority -/
  | accepted (row : TableRow)
  /-- it reached an entry whose required-zero fields are not all zero -/
  | malformedEncoding
  /-- it reached no entry: UnknownSelector or UnsupportedSubform -/
  | noEntry
  deriving DecidableEq, Repr

/-- The fitting rows of a list, those of priority 0 first. -/
def fittingRows (w : Word32) (rows : List TableRow) : List TableRow :=
  rows.filter (fun r => r.fits w && r.priority == 0) ++ rows.filter (fun r => r.fits w && r.priority != 0)

/-- Reading the table, as R100 says. -/
def tableAnswer (w : Word32) : TableAnswer :=
  match fittingRows w opcodeTable with
  | row :: _ => .accepted row
  | [] => if opcodeTable.any (fun r => r.reached w) then .malformedEncoding else .noEntry

end Sys2Proof.Machine
end

