-- ==== Sys2Proof/Machine/Names.lean ====
section
/-! DEFINITION. The name tables (`40_name_tables.md`): total, pure lookups; none takes part in accept or reject
(R120). Every string but `$sp`, `$ra`, the format characters and the four branch suffixes is the spec's own
choice (log entry 12). -/

namespace Sys2Proof.Machine

/-- The 32 general register names, index 0 to 31 (R121). -/
def generalRegisterNames : List String :=
  ["$zero", "$at", "$v0", "$v1", "$a0", "$a1", "$a2", "$a3"] ++
  ["$t0", "$t1", "$t2", "$t3", "$t4", "$t5", "$t6", "$t7"] ++
  ["$s0", "$s1", "$s2", "$s3", "$s4", "$s5", "$s6", "$s7"] ++
  ["$t8", "$t9", "$k0", "$k1", "$gp", "$sp", "$fp", "$ra"]

/-- A general register's name (R121). -/
def generalRegisterName (n : BitVec 5) : String := generalRegisterNames.getD n.toNat ""

/-- A number in decimal digits. -/
def decimalText (n : Nat) : String := String.ofList (Nat.toDigits 10 n)

/-- A floating register's name, `$f<i>` (R122). -/
def floatRegisterName (n : BitVec 5) : String := "$f" ++ decimalText n.toNat

/-- The 16 floating condition mnemonics, code 0 to 15 (R123). -/
def conditionNames : List String :=
  ["f", "un", "eq", "ueq", "olt", "ult", "ole", "ule"] ++
  ["sf", "ngle", "seq", "ngl", "lt", "nge", "le", "ngt"]

/-- A floating condition code's mnemonic (R123). -/
def conditionName (cond : BitVec 4) : String := conditionNames.getD cond.toNat ""

/-- The coprocessor branch table of R124, as identifiers: two condition bits and the coprocessor id. -/
def copBranchMnemonic (z : CopId) (sel : BitVec 2) : Mnemonic :=
  match z, sel with
  | .cop0, 0#2 => .bc0f
  | .cop0, 1#2 => .bc0t
  | .cop0, 2#2 => .bc0fl
  | .cop0, _ => .bc0tl
  | .cop1, 0#2 => .bc1f
  | .cop1, 1#2 => .bc1t
  | .cop1, 2#2 => .bc1fl
  | .cop1, _ => .bc1tl
  | .cop2, 0#2 => .bc2f
  | .cop2, 1#2 => .bc2t
  | .cop2, 2#2 => .bc2fl
  | .cop2, _ => .bc2tl

/-- The coprocessor branch table of R124, as strings: absent for an id other than 0, 1, 2. -/
def copBranchName (id : Nat) (sel : BitVec 2) : Option String :=
  match id with
  | 0 => some (copBranchMnemonic .cop0 sel).spelling
  | 1 => some (copBranchMnemonic .cop1 sel).spelling
  | 2 => some (copBranchMnemonic .cop2 sel).spelling
  | _ => none

/-- The format character of a tag, the placeholder for an unrecognised one (R125); it never fails. -/
def formatChar (placeholder : Char) (fmt : BitVec 5) : Char :=
  match fmt with
  | 16#5 => 's'
  | 17#5 => 'd'
  | 20#5 => 'w'
  | _ => placeholder

end Sys2Proof.Machine
end

