-- ==== Sys2Proof/Machine/Profile.lean ====
section
/-! DEFINITION. The decode tables as the parameter the spec says they are (`00_scope.md` R8, `30_encoding.md` R97,
D26): a profile `T`, the decoder over any profile, the ten constraints W1 to W10, and `T_default` as data. An entry
is a mnemonic, an operand list and a required-zero pattern (D26). The positions of the fields and of the windows
and the choice of the key fields are not part of a profile (log entry 13). -/

namespace Sys2Proof.Machine

/-- A field that the pattern of an R-form, direct or regimm entry can require to be zero (R140, R210). -/
inductive ZeroField where
  | rs
  | rt
  | rd
  | shamt
  deriving DecidableEq, Repr

/-- The field's value in a word. -/
def ZeroField.value (w : Word32) : ZeroField → BitVec 5
  | .rs => rsOf w
  | .rt => rtOf w
  | .rd => rdOf w
  | .shamt => shamtOf w

/-- Some field of the pattern is non-zero (R96, R142). -/
def patternBroken (zero : List ZeroField) (w : Word32) : Bool := zero.any (fun f => f.value w != 0#5)

/-- A field or window that the pattern of a coprocessor entry can require to be zero (U2, D6, D7). It cannot name
`rs`: that is the key of steps (a) and (c), and the format tag of step (b), which never rejects in any profile
(R285). -/
inductive CopZeroField where
  /-- `rt`, the `ft` of a floating-point form -/
  | rt
  /-- `rd`, the `fs` of a floating-point form -/
  | rd
  /-- `shamt`, the `fd` of a floating-point form -/
  | shamt
  /-- `rt[4:2]`, above the selector of a coprocessor branch -/
  | rtHigh
  /-- `imm[10:8]`, above the compare window -/
  | immMiddle
  deriving DecidableEq, Repr

/-- The field or window is zero in a word. -/
def CopZeroField.isZero (w : Word32) : CopZeroField → Bool
  | .rt => rtOf w == 0#5
  | .rd => rdOf w == 0#5
  | .shamt => shamtOf w == 0#5
  | .rtHigh => branchUntestedOf w == 0#3
  | .immMiddle => w.extractLsb' 8 3 == 0#3

/-- Some field of a coprocessor entry's pattern is non-zero (R96). -/
def copPatternBroken (zero : List CopZeroField) (w : Word32) : Bool := zero.any (fun f => !f.isZero w)

/-- `kind` of an R-table entry (R140). -/
inductive RKind where
  | plain
  /-- shift with the no-op form (R145) -/
  | shiftNop
  /-- sync class (R146) -/
  | syncClass
  /-- add unsigned with the move form (R147) -/
  | addMove
  deriving DecidableEq, Repr

/-- An R-table entry (R140): `mn`, `operands`, `zero`, `kind`. -/
structure REntry where
  mn : Mnemonic
  operands : List Operand
  zero : List ZeroField
  kind : RKind
  deriving DecidableEq, Repr

/-- `class` of a direct I-table entry (R210). -/
inductive IClass where
  | branchTwoRegister
  | branchOneRegister
  | immediateArithmetic
  | loadUpper
  | memory
  | memoryFloating
  | cache
  deriving DecidableEq, Repr

/-- The branch classes, whose result carries a target (R211 (5)). -/
def IClass.isBranch : IClass → Bool
  | .branchTwoRegister | .branchOneRegister => true
  | .immediateArithmetic | .loadUpper | .memory | .memoryFloating | .cache => false

/-- The operand list of a direct class (R215, R216, and the operand lists of R220 to R254). -/
def IClass.operands : IClass → List Operand
  | .branchTwoRegister => [.rs, .rt, .target]
  | .branchOneRegister => [.rs, .target]
  | .immediateArithmetic => [.rt, .rs, .imm]
  | .loadUpper => [.rt, .imm]
  | .memory => [.rt, .memory]
  | .memoryFloating => [.ft, .memory]
  | .cache => [.opNumber, .memory]

/-- An I-table entry (R210); `likely` on an entry of a branch class marks the variants of W8. -/
inductive IEntry where
  | regimm
  | cop (z : CopId)
  | direct (mn : Mnemonic) (cls : IClass) (zero : List ZeroField) (likely : Bool)
  deriving DecidableEq, Repr

/-- `class` of a regimm entry (R260). -/
inductive RegimmClass where
  | branch
  | trapImmediate
  deriving DecidableEq, Repr

/-- The operand list of a regimm class (R260). -/
def RegimmClass.operands : RegimmClass → List Operand
  | .branch => [.rs, .target]
  | .trapImmediate => [.rs, .imm]

/-- A regimm entry (R260), with the required-zero pattern that `T_default` leaves empty (D4). -/
structure RegimmEntry where
  mn : Mnemonic
  cls : RegimmClass
  zero : List ZeroField
  deriving DecidableEq, Repr

/-- An entry of the three steps of the coprocessor cascade (R281, R283, R284, R286). -/
structure CopEntry where
  mn : Mnemonic
  operands : List Operand
  zero : List CopZeroField
  deriving DecidableEq, Repr

/-- One value for each coprocessor id. -/
structure ById (α : Type) where
  cop0 : α
  cop1 : α
  cop2 : α
  deriving DecidableEq, Repr

/-- The value for one id. -/
def ById.get (x : ById α) : CopId → α
  | .cop0 => x.cop0
  | .cop1 => x.cop1
  | .cop2 => x.cop2

/-- One value for each value of the two selecting bits of a coprocessor branch (R281). -/
structure BySelect (α : Type) where
  sel0 : α
  sel1 : α
  sel2 : α
  sel3 : α
  deriving DecidableEq, Repr

/-- The value for one pair of selecting bits. -/
def BySelect.get (x : BySelect α) (sel : BitVec 2) : α :=
  if sel = 0#2 then x.sel0 else if sel = 1#2 then x.sel1 else if sel = 2#2 then x.sel2 else x.sel3

/-- A decode-table profile `T` (R8). -/
structure Profile where
  opR : BitVec 6
  opJ : BitVec 6
  opJal : BitVec 6
  rTable : List (BitVec 6 × REntry)
  iTable : List (BitVec 6 × IEntry)
  regimmTable : List (BitVec 5 × RegimmEntry)
  /-- the sentinel value of step (a) (R281) -/
  branchSentinel : BitVec 5
  /-- the branch each coprocessor id and `rt[1:0]` select in step (a) (R281, D6) -/
  branchTable : ById (BySelect CopEntry)
  /-- the gate of step (b): `rs` under the mask equals the value (R282) -/
  gateMask : BitVec 5
  gateValue : BitVec 5
  /-- the function codes of step (b) (R283) -/
  floatTable : List (BitVec 6 × CopEntry)
  /-- the compare window's value and its entry (R284) -/
  compareWindow : BitVec 4
  compare : CopEntry
  /-- the move set of step (c) for each coprocessor id (R286, D8) -/
  moveTable : ById (List (BitVec 5 × CopEntry))
  deriving DecidableEq, Repr

/-! ### The decoder over a profile -/

/-- The decoder an opcode routes to (R351). -/
def Profile.route (T : Profile) (op : BitVec 6) : Form :=
  if op = T.opR then .R else if op = T.opJ ∨ op = T.opJal then .J else .I

/-- `RDecode` (R141). -/
def Profile.rDecode (T : Profile) (w : Word32) : DecodeResult :=
  match T.rTable.lookup (functOf w) with
  | none => .rejected .unknownSelector
  | some e =>
    if e.kind = .syncClass then .accepted ⟨.nop, .R, w, none, some e.mn, false⟩
    else if patternBroken e.zero w then .rejected .malformedEncoding
    else if e.kind = .shiftNop ∧ shamtOf w = 0#5 then .accepted ⟨.nop, .R, w, none, some e.mn, false⟩
    else if e.kind = .addMove ∧ rtOf w = 0#5 then .accepted ⟨.move, .R, w, none, some e.mn, false⟩
    else .accepted ⟨e.mn, .R, w, none, none, false⟩

/-- An accepted I-form word with a branch target (R212, R219). -/
def acceptedBranch (mn : Mnemonic) (w pc : Word32) (ubranch : Bool) : DecodeResult :=
  .accepted ⟨mn, .I, w, some (branchTarget pc (immOf w)), none, ubranch⟩

/-- An accepted I-form word without a target (R219). -/
def acceptedPlain (mn : Mnemonic) (w : Word32) (ubranch : Bool) : DecodeResult :=
  .accepted ⟨mn, .I, w, none, none, ubranch⟩

/-- The regimm family (R260). -/
def Profile.regimmDecode (T : Profile) (w pc : Word32) : DecodeResult :=
  match T.regimmTable.lookup (rtOf w) with
  | none => .rejected .unsupportedSubform
  | some e =>
    if patternBroken e.zero w then .rejected .malformedEncoding
    else if e.cls = .branch then acceptedBranch e.mn w pc false
    else acceptedPlain e.mn w false

/-- The step of the cascade that decides a word (R280). -/
inductive CopStep where
  | branch
  | floating
  | move
  deriving DecidableEq, Repr

/-- The gate of step (b), for coprocessor 1 only (R282, W7). -/
def Profile.floatGate (T : Profile) (z : CopId) (w : Word32) : Bool :=
  z == .cop1 && (rsOf w &&& T.gateMask) == T.gateValue

/-- The entry step (b) matches (R283, R284): `none` when neither the table nor the window does. -/
def Profile.floatMatch (T : Profile) (w : Word32) : Option CopEntry :=
  match T.floatTable.lookup (functOf w) with
  | some e => some e
  | none => if compareWindowOf w = T.compareWindow then some T.compare else none

/-- The entry step (c) matches (R286). -/
def Profile.moveMatch (T : Profile) (z : CopId) (w : Word32) : Option (CopStep × CopEntry) :=
  ((T.moveTable.get z).lookup (rsOf w)).map (fun e => (.move, e))

/-- The step and the entry that decide a coprocessor word: (a), then (b), then (c) (R280 to R286). -/
def Profile.copMatch (T : Profile) (z : CopId) (w : Word32) : Option (CopStep × CopEntry) :=
  if rsOf w = T.branchSentinel then some (.branch, (T.branchTable.get z).get (branchSelectOf w))
  else if T.floatGate z w then
    match T.floatMatch w with
    | some e => some (.floating, e)
    | none => T.moveMatch z w
  else T.moveMatch z w

/-- The zero test of a matched entry: its pattern, and in step (c) the low 11 bits of the immediate (R286). -/
def copMalformed (step : CopStep) (e : CopEntry) (w : Word32) : Bool :=
  copPatternBroken e.zero w || (step == .move && immLow11Of w != 0#11)

/-- `CopDecode` (R280, R287). -/
def Profile.copDecode (T : Profile) (z : CopId) (w pc : Word32) : DecodeResult :=
  match T.copMatch z w with
  | none => .rejected .unsupportedSubform
  | some (step, e) =>
    if copMalformed step e w then .rejected .malformedEncoding
    else if step = .branch then acceptedBranch e.mn w pc false
    else acceptedPlain e.mn w false

/-- The unconditional-branch pattern, in any profile: opcode 4 with both register fields zero (R214). -/
def unconditionalWord (w : Word32) : Bool := opcodeOf w == 4#6 && isUnconditional (rsOf w) (rtOf w)

/-- `IDecode` (R211). -/
def Profile.iDecode (T : Profile) (w pc : Word32) : DecodeResult :=
  match T.iTable.lookup (opcodeOf w) with
  | none => .rejected .unknownSelector
  | some .regimm => T.regimmDecode w pc
  | some (.cop z) => T.copDecode z w pc
  | some (.direct mn cls zero _) =>
    if patternBroken zero w then .rejected .malformedEncoding
    else if cls.isBranch then acceptedBranch mn w pc (unconditionalWord w)
    else acceptedPlain mn w (unconditionalWord w)

/-- `JDecode` (R340 to R344). -/
def Profile.jDecode (T : Profile) (w pc : Word32) : DecodeResult :=
  .accepted ⟨if opcodeOf w = T.opJ then .j else .jal, .J, w, some (jumpTarget pc (targetOf w)), none, false⟩

/-- `Decode(w, pc)` (R350). -/
def Profile.decode (T : Profile) (w pc : Word32) : DecodeResult :=
  match T.route (opcodeOf w) with
  | .R => T.rDecode w
  | .J => T.jDecode w pc
  | .I => T.iDecode w pc

/-- Accepted or Rejected is a function of the word alone (R354). -/
def Profile.accepts (T : Profile) (w : Word32) : Bool := (T.decode w 0#32).outward.isSome

/-- The operands of an accepted I-form word: those of its entry's class, or of its entry (R210, R260, R280). -/
def Profile.iOperands (T : Profile) (w : Word32) : List Operand :=
  match T.iTable.lookup (opcodeOf w) with
  | none => []
  | some .regimm => ((T.regimmTable.lookup (rtOf w)).map (fun e => e.cls.operands)).getD []
  | some (.cop z) => ((T.copMatch z w).map (fun m => m.2.operands)).getD []
  | some (.direct _ cls _ _) => cls.operands

/-- The operands of an accepted word (R398): those of its table entry, which its own bits select. The aliases have
their own, in every profile: `nop` none, `move` `rd, rs` (R147, R398). DESIGN CHOICE (log entry 22, unsafe): a record
that this profile did not accept, and whose word selects no entry, has the empty list; the spec renders none. -/
def Profile.operandsOf (T : Profile) (insn : Insn) : List Operand :=
  match insn.form with
  | .R =>
    if insn.via.isSome then Machine.operandsOf insn.mn
    else ((T.rTable.lookup (functOf insn.w)).map REntry.operands).getD []
  | .I => T.iOperands insn.w
  | .J => [.target]

/-! ### The constraints W1 to W10 (R97) -/

/-- A "likely" branch variant: an entry of a branch class that carries the mark (R213, W8). -/
def IEntry.isLikelyBranch : IEntry → Bool
  | .direct _ cls _ likely => cls.isBranch && likely
  | .regimm | .cop _ => false

/-- A key stands at most once in a decode table. -/
def keysDistinct [DecidableEq α] (table : List (α × β)) : Prop := (table.map Prod.fst).Nodup

/-- A well-formed profile (R97). W10 holds of every profile by the shape of `jDecode`. -/
structure Profile.WellFormed (T : Profile) : Prop where
  /-- W1 -/
  routes : T.opR ≠ T.opJ ∧ T.opR ≠ T.opJal ∧ T.opJ ≠ T.opJal
  /-- W2 -/
  opcode4 : T.route 4#6 = .I ∧ ∃ mn likely, T.iTable.lookup 4#6 = some (.direct mn .branchTwoRegister [] likely)
  /-- W3 -/
  opcode63 : T.route 63#6 = .I ∧ T.iTable.lookup 63#6 = none
  /-- W4 -/
  rEntries : keysDistinct T.rTable ∧ (T.rTable.countP (fun e => e.2.kind == .shiftNop)) = 1 ∧
    (T.rTable.countP (fun e => e.2.kind == .syncClass)) = 1 ∧ (T.rTable.countP (fun e => e.2.kind == .addMove)) = 1
  /-- W5 -/
  noop : ∃ w via, ∀ pc, T.decode w pc = .accepted ⟨.nop, .R, w, none, some via, false⟩
  /-- W6 -/
  regimm : keysDistinct T.iTable ∧ (T.iTable.countP (fun e => e.2 == .regimm)) = 1 ∧
    keysDistinct T.regimmTable ∧ T.regimmTable.length = 14
  /-- W7: one opcode for each id, and no routed value among them -/
  cops : (∀ z, (T.iTable.countP (fun e => e.2 == .cop z)) = 1) ∧ ∀ e ∈ T.iTable, T.route e.1 = .I
  /-- W8 -/
  likely : (T.iTable.countP (fun e => e.2.isLikelyBranch)) = 2
  /-- W9 (only coprocessor 1 has a step (b) to enter) -/
  cascade : (∀ e ∈ T.floatTable, e.1.extractLsb' 4 2 ≠ T.compareWindow.extractLsb' 0 2) ∧
    (∀ z, ∀ e ∈ T.moveTable.get z, e.1 ≠ T.branchSentinel) ∧
    ∀ e ∈ T.moveTable.cop1, (e.1 &&& T.gateMask) ≠ T.gateValue

/-! ### `T_default` -/

/-- An R-table entry of `T_default`, with the operand list of its rule (R150 to R201). -/
def rEntry (mn : Mnemonic) (zero : List ZeroField) (kind : RKind) : REntry := ⟨mn, operandsOf mn, zero, kind⟩

/-- A coprocessor entry of `T_default`, with the operand list of its rule (R290 to R333). -/
def copEntry (mn : Mnemonic) (zero : List CopZeroField) : CopEntry := ⟨mn, operandsOf mn, zero⟩

/-- The R-table of `T_default` (R90, R150 to R202). -/
def defaultRTable : List (BitVec 6 × REntry) :=
  [(0#6, rEntry .sll [.rs] .shiftNop), (2#6, rEntry .srl [.rs] .plain), (3#6, rEntry .sra [.rs] .plain),
   (4#6, rEntry .sllv [.shamt] .plain), (6#6, rEntry .srlv [.shamt] .plain),
   (7#6, rEntry .srav [.shamt] .plain), (8#6, rEntry .jr [.rt, .rd, .shamt] .plain),
   (9#6, rEntry .jalr [.rt, .shamt] .plain), (12#6, rEntry .syscall [] .plain), (13#6, rEntry .brk [] .plain),
   (15#6, rEntry .sync [] .syncClass), (16#6, rEntry .mfhi [.rs, .rt, .shamt] .plain),
   (17#6, rEntry .mthi [.rt, .rd, .shamt] .plain), (18#6, rEntry .mflo [.rs, .rt, .shamt] .plain),
   (19#6, rEntry .mtlo [.rt, .rd, .shamt] .plain), (20#6, rEntry .dsllv [.shamt] .plain),
   (22#6, rEntry .dsrlv [.shamt] .plain), (23#6, rEntry .dsrav [.shamt] .plain),
   (24#6, rEntry .mult [.rd, .shamt] .plain), (25#6, rEntry .multu [.rd, .shamt] .plain),
   (26#6, rEntry .div [.rd, .shamt] .plain), (27#6, rEntry .divu [.rd, .shamt] .plain),
   (28#6, rEntry .dmult [.rd, .shamt] .plain), (29#6, rEntry .dmultu [.rd, .shamt] .plain),
   (30#6, rEntry .ddiv [.rd, .shamt] .plain), (31#6, rEntry .ddivu [.rd, .shamt] .plain),
   (32#6, rEntry .add [.shamt] .plain), (33#6, rEntry .addu [.shamt] .addMove),
   (34#6, rEntry .sub [.shamt] .plain), (35#6, rEntry .subu [.shamt] .plain),
   (36#6, rEntry .and [.shamt] .plain), (37#6, rEntry .or [.shamt] .plain), (38#6, rEntry .xor [.shamt] .plain),
   (39#6, rEntry .nor [.shamt] .plain), (42#6, rEntry .slt [.shamt] .plain),
   (43#6, rEntry .sltu [.shamt] .plain), (44#6, rEntry .dadd [.shamt] .plain),
   (45#6, rEntry .daddu [.shamt] .plain), (46#6, rEntry .dsub [.shamt] .plain),
   (47#6, rEntry .dsubu [.shamt] .plain), (48#6, rEntry .tge [] .plain), (49#6, rEntry .tgeu [] .plain),
   (50#6, rEntry .tlt [] .plain), (51#6, rEntry .tltu [] .plain), (52#6, rEntry .teq [] .plain),
   (54#6, rEntry .tne [] .plain), (56#6, rEntry .dsll [.rs] .plain), (58#6, rEntry .dsrl [.rs] .plain),
   (59#6, rEntry .dsra [.rs] .plain), (60#6, rEntry .dsll32 [.rs] .plain), (62#6, rEntry .dsrl32 [.rs] .plain),
   (63#6, rEntry .dsra32 [.rs] .plain)]

/-- The I-table of `T_default` (R89, R220 to R255). -/
def defaultITable : List (BitVec 6 × IEntry) :=
  [(1#6, .regimm), (16#6, .cop .cop0),
   (17#6, .cop .cop1), (18#6, .cop .cop2),
   (4#6, .direct .beq .branchTwoRegister [] false), (5#6, .direct .bne .branchTwoRegister [] false),
   (6#6, .direct .blez .branchOneRegister [.rt] false), (7#6, .direct .bgtz .branchOneRegister [.rt] false),
   (8#6, .direct .addi .immediateArithmetic [] false), (9#6, .direct .addiu .immediateArithmetic [] false),
   (10#6, .direct .slti .immediateArithmetic [] false), (11#6, .direct .sltiu .immediateArithmetic [] false),
   (12#6, .direct .andi .immediateArithmetic [] false), (13#6, .direct .ori .immediateArithmetic [] false),
   (14#6, .direct .xori .immediateArithmetic [] false), (15#6, .direct .lui .loadUpper [.rs] false),
   (20#6, .direct .beql .branchTwoRegister [] true), (21#6, .direct .bnel .branchTwoRegister [] true),
   (24#6, .direct .daddi .immediateArithmetic [] false), (25#6, .direct .daddiu .immediateArithmetic [] false),
   (32#6, .direct .lb .memory [] false), (33#6, .direct .lh .memory [] false),
   (34#6, .direct .lwl .memory [] false), (35#6, .direct .lw .memory [] false),
   (36#6, .direct .lbu .memory [] false), (37#6, .direct .lhu .memory [] false),
   (38#6, .direct .lwr .memory [] false), (39#6, .direct .lwu .memory [] false),
   (40#6, .direct .sb .memory [] false), (41#6, .direct .sh .memory [] false),
   (42#6, .direct .swl .memory [] false), (43#6, .direct .sw .memory [] false),
   (46#6, .direct .swr .memory [] false), (47#6, .direct .cache .cache [] false),
   (49#6, .direct .lwc1 .memoryFloating [] false), (53#6, .direct .ldc1 .memoryFloating [] false),
   (55#6, .direct .ld .memory [] false), (57#6, .direct .swc1 .memoryFloating [] false),
   (61#6, .direct .sdc1 .memoryFloating [] false)]

/-- The regimm table of `T_default` (R91, R261 to R275). -/
def defaultRegimmTable : List (BitVec 5 × RegimmEntry) :=
  [(0#5, ⟨.bltz, .branch, []⟩), (1#5, ⟨.bgez, .branch, []⟩), (2#5, ⟨.bltzl, .branch, []⟩),
   (3#5, ⟨.bgezl, .branch, []⟩), (8#5, ⟨.tgei, .trapImmediate, []⟩), (9#5, ⟨.tgeiu, .trapImmediate, []⟩),
   (10#5, ⟨.tlti, .trapImmediate, []⟩), (11#5, ⟨.tltiu, .trapImmediate, []⟩),
   (12#5, ⟨.teqi, .trapImmediate, []⟩), (14#5, ⟨.tnei, .trapImmediate, []⟩), (16#5, ⟨.bltzal, .branch, []⟩),
   (17#5, ⟨.bgezal, .branch, []⟩), (18#5, ⟨.bltzall, .branch, []⟩), (19#5, ⟨.bgezall, .branch, []⟩)]

/-- The coprocessor branches of `T_default`: `rt[1:0]` = 0, 1, 2, 3 selects `f`, `t`, `fl`, `tl`, and `rt[4:2]` is
not tested (R92, R281, R290 to R301, D6). -/
def defaultBranches (z : CopId) : BySelect CopEntry :=
  ⟨copEntry (copBranchMnemonic z 0#2) [], copEntry (copBranchMnemonic z 1#2) [],
   copEntry (copBranchMnemonic z 2#2) [], copEntry (copBranchMnemonic z 3#2) []⟩

/-- The floating-point function codes of `T_default` (R92, R302 to R314). -/
def defaultFloatTable : List (BitVec 6 × CopEntry) :=
  [(0#6, copEntry .addFmt []), (1#6, copEntry .subFmt []), (2#6, copEntry .mulFmt []), (3#6, copEntry .divFmt []),
   (4#6, copEntry .sqrtFmt [.rt]), (7#6, copEntry .negFmt [.rt]), (12#6, copEntry .roundWFmt [.rt]),
   (13#6, copEntry .truncWFmt [.rt]), (14#6, copEntry .ceilWFmt [.rt]), (15#6, copEntry .floorWFmt [.rt]),
   (32#6, copEntry .cvtSFmt [.rt]), (33#6, copEntry .cvtDFmt [.rt]), (36#6, copEntry .cvtWFmt [.rt])]

/-- The move set of `T_default`, given the six mnemonics of one coprocessor id in the order of R92 (R316 to R333). -/
def moveSet (mfc dmfc cfc mtc dmtc ctc : Mnemonic) : List (BitVec 5 × CopEntry) :=
  [(0#5, copEntry mfc []), (1#5, copEntry dmfc []), (2#5, copEntry cfc []),
   (4#5, copEntry mtc []), (5#5, copEntry dmtc []), (6#5, copEntry ctc [])]

/-- The move sets of `T_default`, the same keys for the three ids (R92, R286, D8). -/
def defaultMoveTable : ById (List (BitVec 5 × CopEntry)) where
  cop0 := moveSet .mfc0 .dmfc0 .cfc0 .mtc0 .dmtc0 .ctc0
  cop1 := moveSet .mfc1 .dmfc1 .cfc1 .mtc1 .dmtc1 .ctc1
  cop2 := moveSet .mfc2 .dmfc2 .cfc2 .mtc2 .dmtc2 .ctc2

/-- `T_default` (R8, R89 to R92). -/
def tDefault : Profile where
  opR := 0#6
  opJ := 2#6
  opJal := 3#6
  rTable := defaultRTable
  iTable := defaultITable
  regimmTable := defaultRegimmTable
  branchSentinel := 8#5
  branchTable := ⟨defaultBranches .cop0, defaultBranches .cop1, defaultBranches .cop2⟩
  gateMask := 16#5
  gateValue := 16#5
  floatTable := defaultFloatTable
  compareWindow := 3#4
  compare := copEntry .cCondFmt []
  moveTable := defaultMoveTable

end Sys2Proof.Machine
end

