-- ==== Sys2Proof/Machine/Scan.lean ====
section
/-! DEFINITION. The scanner over an arbitrary profile and the whole scan (`47_scanner.md` R363, R373, R375). The
machine's own `step` (`Machine/Step.lean`) is the same transition written over the instructions of
`T_default`. -/

namespace Sys2Proof.Machine

/-- `Step(S)` of R363 over a profile; Halted keeps every field (R370). -/
def Profile.scanStep (T : Profile) (s : State) : State :=
  match s.fsm with
  | .halted => s
  | .scanning =>
    match imgRead32 s s.offset.toNat with
    | none => s.haltScan
    | some w =>
      match T.decode w s.programCounter with
      | .accepted insn => s.accepted insn
      | .rejected _ => s.haltScan

/-- `n` steps. -/
def Profile.scanSteps (T : Profile) : Nat → State → State
  | 0, s => s
  | n + 1, s => T.scanSteps n (T.scanStep s)

/-- The whole words from the read offset to the end of the image (R56: a tail shorter than a word is none). -/
def wordsLeft (s : State) : Nat := (s.imageSize.toNat - s.offset.toNat) / 4

/-- The bound of R373: no more steps than this from `s` to Halted. -/
def stepBound (s : State) : Nat := wordsLeft s + 1

/-- `Scan` of R375: the state in which a scan ends. -/
def Profile.scan (T : Profile) (s : State) : State := T.scanSteps (stepBound s) s

/-- The word at index `k` from the read offset on; 0 where there is none. -/
def wordAt (s : State) (k : Nat) : Word32 := (imgRead32 s (s.offset.toNat + 4 * k)).getD 0#32

/-- The words the scanner can read from `s` on, in order. -/
def wordsAhead (s : State) : List Word32 := (List.range (wordsLeft s)).map (wordAt s)

/-- The words a scan from `s` accepts: those before the first rejected one (R375). -/
def Profile.acceptedAhead (T : Profile) (s : State) : List Word32 :=
  (wordsAhead s).takeWhile (fun w => T.accepts w)

/-- An opcode that routes to J-decode (R368). -/
def Profile.jumpWord (T : Profile) (w : Word32) : Bool := T.route (opcodeOf w) == .J

end Sys2Proof.Machine
end

