-- ==== Sys2Proof/Machine/Ports.lean ====
section
/-! DEFINITION. The outputs of the reference interface (`92_eei_decisions.md` D17) as a function of the state in
one cycle: what the ports show before the clock edge `clockEdge`. The inputs are the state's own input
fields. -/

namespace Sys2Proof.Machine

/-- The output ports of D17. -/
structure Ports where
  /-- `img_addr`: the byte offset of the word wanted -/
  imgAddr : Word32
  /-- `rec_valid` and the `rec_` ports: the record of an accepting step -/
  record : Option Record
  /-- `halted` -/
  halted : Bool
  /-- `boundary_valid` -/
  boundaryValid : Bool
  /-- `boundary_offset` -/
  boundaryOffset : Word32
  /-- `binary_start` -/
  binaryStart : Word32
  /-- `jump_count` -/
  jumpCount : Word32
  /-- `branch_count` -/
  branchCount : Word32
  /-- `dbg_class`: the class code of the word decoded this cycle (R422, D18); `none` when none is -/
  debugClass : Option (BitVec 2)
  deriving DecidableEq, Repr

/-- The result of decoding the word at the read offset, when the scanner decodes one in this cycle (R363). -/
def State.decodedNow (s : State) : Option DecodeResult :=
  match s.fsm with
  | .halted => none
  | .scanning => (imgRead32 s s.offset.toNat).map (fun w => tDefault.decode w s.programCounter)

/-- The record the step of this cycle emits, if it accepts a word. -/
def State.recordNow (s : State) : Option Record :=
  s.decodedNow.bind (fun r =>
    r.outward.map (fun insn => ⟨s.programCounter, s.offset, insn.w, insn⟩))

/-- The ports in this cycle. -/
def State.ports (s : State) : Ports where
  imgAddr := s.offset
  record := s.recordNow
  halted := s.fsm == .halted
  boundaryValid := s.boundaryValid
  boundaryOffset := s.boundaryOffset
  binaryStart := s.binaryStart
  jumpCount := s.jumpCount
  branchCount := s.branchCount
  debugClass := s.decodedNow.map DecodeResult.debugCode

end Sys2Proof.Machine
end

