-- ==== Sys2Proof/Machine/Render.lean ====
section
/-! DEFINITION. The text line of an accepted word (`48_text_output.md`): a pure function of the result record and
the program counter, outside accept and reject (R390). What the spec leaves open is a parameter, with the
spec's own defaults (R392 to R396, D22; log entry 9). -/

namespace Sys2Proof.Machine

/-- The rendering parameters of D22. -/
structure RenderParams where
  /-- `MNEMONIC_COL` -/
  mnemonicCol : Nat
  /-- `PAD_SIDE` -/
  padSide : PadSide
  /-- `HEX_CASE` -/
  hexCase : HexCase
  /-- `OPERAND_SEP` -/
  operandSep : String
  /-- `TARGET_PREFIX` -/
  targetPrefix : String
  /-- `IMM_RADIX` -/
  immRadix : Nat
  /-- `IMM_SIGNED`, as the mnemonics whose immediate is read unsigned -/
  immUnsigned : List Mnemonic
  /-- `FMT_PLACEHOLDER` -/
  fmtPlaceholder : Char
  deriving DecidableEq, Repr

/-- The defaults of R392, R394 and R396. -/
def RenderParams.default : RenderParams where
  mnemonicCol := 8
  padSide := .blanksAfter
  hexCase := .lower
  operandSep := ", "
  targetPrefix := "0x"
  immRadix := 10
  immUnsigned := [.andi, .ori, .xori, .lui, .lbu, .sb, .cache]
  fmtPlaceholder := '?'

/-- A digit list in the case asked for. -/
def inCase (c : HexCase) (digits : List Char) : List Char :=
  match c with
  | .lower => digits
  | .upper => digits.map Char.toUpper

/-- `hex8`: eight hexadecimal digits with leading zeros (R391, R392). -/
def hex8 (c : HexCase) (v : Word32) : String :=
  let digits := Nat.toDigits 16 v.toNat
  String.ofList (inCase c (List.replicate (8 - digits.length) '0' ++ digits))

/-- `pad`: the mnemonic brought to the column's width (R392). -/
def padMnemonic (p : RenderParams) (text : String) : String :=
  let blanks := String.ofList (List.replicate (p.mnemonicCol - text.length) ' ')
  match p.padSide with
  | .blanksBefore => blanks ++ text
  | .blanksAfter => text ++ blanks

/-- A number in the immediate's radix. DESIGN CHOICE (log entry 22, unsafe): R396 gives the parameter no range; a
radix below 2 or above 16 prints what `Nat.toDigits` gives. -/
def radixText (p : RenderParams) (n : Nat) : String :=
  String.ofList (inCase p.hexCase (Nat.toDigits p.immRadix n))

/-- The text of an immediate: unsigned, or signed with a leading `-` when negative (R396). -/
def immText (p : RenderParams) (mn : Mnemonic) (imm : BitVec 16) : String :=
  if p.immUnsigned.contains mn then radixText p (unsignedImm imm).toNat
  else if imm.msb then "-" ++ radixText p (signedImm imm).toInt.natAbs
  else radixText p (signedImm imm).toInt.natAbs

/-- The text of one operand (R393 to R396, R398). DESIGN CHOICE (log entry 22, unsafe): R394 speaks of the `tgt` of a
branch-class or jump-class result only. An entry of another profile can list `target` for a result that carries none;
the operand then prints the prefix and eight zeros. No result of `T_default` does so. -/
def operandText (p : RenderParams) (insn : Insn) : Operand → String
  | .rs => generalRegisterName (rsOf insn.w)
  | .rt => generalRegisterName (rtOf insn.w)
  | .rd => generalRegisterName (rdOf insn.w)
  | .shamt => decimalText (shamtOf insn.w).toNat
  | .imm => immText p insn.mn (immOf insn.w)
  | .target => p.targetPrefix ++ hex8 p.hexCase (insn.tgt.getD 0)
  | .memory => immText p insn.mn (immOf insn.w) ++ "(" ++ generalRegisterName (rsOf insn.w) ++ ")"
  | .opNumber => decimalText (rtOf insn.w).toNat
  | .fd => floatRegisterName (shamtOf insn.w)
  | .fs => floatRegisterName (rdOf insn.w)
  | .ft => floatRegisterName (rtOf insn.w)
  | .copRegister => "$" ++ decimalText (rdOf insn.w).toNat

/-- `OperandText(insn)` of R392, with the operand list of the profile that accepted the word. -/
def Profile.operandsText (T : Profile) (p : RenderParams) (insn : Insn) : String :=
  p.operandSep.intercalate ((T.operandsOf insn).map (operandText p insn))

/-- The identifier of a floating-point form up to its format character (R397). -/
def floatStem : Mnemonic → Option String
  | .addFmt => some "add."
  | .subFmt => some "sub."
  | .mulFmt => some "mul."
  | .divFmt => some "div."
  | .sqrtFmt => some "sqrt."
  | .negFmt => some "neg."
  | .roundWFmt => some "round.w."
  | .truncWFmt => some "trunc.w."
  | .ceilWFmt => some "ceil.w."
  | .floorWFmt => some "floor.w."
  | .cvtSFmt => some "cvt.s."
  | .cvtDFmt => some "cvt.d."
  | .cvtWFmt => some "cvt.w."
  | _ => none

/-- `MnemonicText(insn)` (R397): the identifier, with `fmt` and `cond` replaced in the floating-point forms. -/
def mnemonicText (p : RenderParams) (insn : Insn) : String :=
  let fmt := String.ofList [formatChar p.fmtPlaceholder (rsOf insn.w)]
  match floatStem insn.mn with
  | some stem => stem ++ fmt
  | none =>
    if insn.mn = .cCondFmt then "c." ++ conditionName (condOf insn.w) ++ "." ++ fmt
    else insn.mn.spelling

/-- `Render(insn, pc)` (R391, R392) over a profile. -/
def Profile.render (T : Profile) (p : RenderParams) (insn : Insn) (pc : Word32) : String :=
  "0x" ++ hex8 p.hexCase pc ++ " " ++ padMnemonic p (mnemonicText p insn) ++ " " ++ T.operandsText p insn

/-- `Render(insn, pc)` (R391, R392) over `T_default`. -/
def render (p : RenderParams) (insn : Insn) (pc : Word32) : String := tDefault.render p insn pc

/-- The text of a result: a rejected word prints nothing (R400). -/
def renderResult (p : RenderParams) (r : DecodeResult) (pc : Word32) : Option String :=
  r.outward.map (fun insn => render p insn pc)

/-- The lines of a scan so far, in the order of its records (R371, R401). -/
def State.lines (s : State) (p : RenderParams) : List String :=
  s.records.map (fun r => render p r.insn r.programCounter)

end Sys2Proof.Machine
end

