-- ==== Sys2Proof/Safety.lean ====
section
/-! DEFINITION. What counts as a sound state and a sound step of the block, in the terms the statements use. -/

namespace Sys2Proof.Machine

/-! ### States -/

/-- The canonical form of the image, and no byte listed outside it (R50, log entry 5). -/
def ImageSound (s : State) : Prop :=
  Memory.wf s.image = true ∧ ∀ c ∈ s.image, c.1 < s.imageSize.toNat

/-- The inputs a scan must not change (R28, R32, R451 (6)), with every byte of the image. -/
structure SameInputs (s t : State) : Prop where
  entryAddress : t.entryAddress = s.entryAddress
  scanStart : t.scanStart = s.scanStart
  imageSize : t.imageSize = s.imageSize
  byteOrder : t.byteOrder = s.byteOrder
  image : t.image = s.image
  bytes : ∀ a, Memory.readByte t.image a = Memory.readByte s.image a

/-- Record `k` of a scan is the `k`-th word from `scan_start` on, read from the image and decoded at its own
address (R34, R364, R371). -/
def RecordReplays (s : State) (k : Nat) (r : Record) : Prop :=
  r.offset = s.scanStart + BitVec.ofNat 32 (4 * k) ∧
    r.programCounter = s.entryAddress + BitVec.ofNat 32 (4 * k) ∧
    imgRead32 s r.offset.toNat = some r.word ∧
    tDefault.decode r.word r.programCounter = .accepted r.insn

/-- The invariants of R34, with `n` the number of accepted words, which is the number of records of the scan
(R371); the counters as counts over those records (R431); and what each record holds. -/
structure ScanInvariant (s : State) : Prop where
  offset_eq : s.offset.toNat = s.scanStart.toNat + 4 * s.records.length
  programCounter_eq : s.programCounter = s.entryAddress + BitVec.ofNat 32 (4 * s.records.length)
  jumpCount_eq : s.jumpCount.toNat = s.records.countP (fun r => countsJump r.insn)
  branchCount_eq : s.branchCount.toNat = s.records.countP (fun r => countsBranch r.insn)
  offset_le : s.scanStart.toNat ≤ s.imageSize.toNat → s.offset.toNat ≤ s.imageSize.toNat
  halted_valid : s.fsm = .halted → s.boundaryValid = true ∧ s.binaryStart = s.offset
  halted_boundary : s.fsm = .halted → 4 ≤ s.offset.toNat → s.boundaryOffset = s.offset - 4#32
  scanning_invalid : s.fsm = .scanning → s.boundaryValid = false
  records_replay : ∀ k r, s.records[k]? = some r → RecordReplays s k r

/-! ### Steps -/

/-- What every accepted word does (R363, R365, R371) and all that it does: one record with the values before
the advance, the program counter and the offset advanced, the counters raised by `jumps` and `branches`, and
every other field, with every byte of the image, as before. -/
structure AcceptedStep (s t : State) (insn : Insn) (jumps branches : Word32) : Prop where
  records : t.records = s.records ++ [⟨s.programCounter, s.offset, insn.w, insn⟩]
  programCounter : t.programCounter = s.programCounter + 4#32
  offset : t.offset = s.offset + 4#32
  jumpCount : t.jumpCount = s.jumpCount + jumps
  branchCount : t.branchCount = s.branchCount + branches
  fsm : t.fsm = s.fsm
  boundaryValid : t.boundaryValid = s.boundaryValid
  boundaryOffset : t.boundaryOffset = s.boundaryOffset
  binaryStart : t.binaryStart = s.binaryStart
  freeIndex : t.freeIndex = s.freeIndex
  inputs : SameInputs s t

/-- The instruction completes: it answers a next state, which is that of an accepted word. -/
def RunsAs (i : Instr) (s : State) (insn : Insn) (jumps branches : Word32) : Prop :=
  ∃ t, exec i s = .next t ∧ AcceptedStep s t insn jumps branches

/-- The transition into Halted (R366, R367, R374, R426) and all that it writes: `boundary_offset` is the offset
before the failing word where there is one, and left open below offset 4. -/
structure HaltedStep (s t : State) : Prop where
  fsm : t.fsm = .halted
  boundaryValid : t.boundaryValid = true
  binaryStart : t.binaryStart = s.offset
  boundaryOffset : 4 ≤ s.offset.toNat → t.boundaryOffset.toNat + 4 = s.offset.toNat
  programCounter : t.programCounter = s.programCounter
  offset : t.offset = s.offset
  jumpCount : t.jumpCount = s.jumpCount
  branchCount : t.branchCount = s.branchCount
  records : t.records = s.records
  inputs : SameInputs s t

/-- The scanner is about to read the word `w` (R363, R364). -/
def Reads (s : State) (w : Word32) : Prop :=
  s.fsm = .scanning ∧ imgRead32 s s.offset.toNat = some w

/-- The scanner is at the end of the data (R56): no whole word is left. -/
def AtEndOfData (s : State) : Prop :=
  s.fsm = .scanning ∧ s.offset.toNat + 4 > s.imageSize.toNat

/-! ### Results -/

/-- The result of an accepted R-form word that keeps its table mnemonic (R148). -/
def resultR (mn : Mnemonic) (w : Word32) : Insn :=
  { mn := mn, form := .R, w := w, tgt := none, via := none, ubranch := false }

/-- The result of an accepted R-form word under an alias (R94, R148). -/
def resultAlias (mn via : Mnemonic) (w : Word32) : Insn :=
  { mn := mn, form := .R, w := w, tgt := none, via := some via, ubranch := false }

/-- The result of an accepted I-form word without a target (R219). -/
def resultI (mn : Mnemonic) (w : Word32) : Insn :=
  { mn := mn, form := .I, w := w, tgt := none, via := none, ubranch := false }

/-- The result of an accepted branch-class word that is not the unconditional pattern (R212, R214). -/
def resultBranch (mn : Mnemonic) (w pc : Word32) (imm : BitVec 16) : Insn :=
  { mn := mn, form := .I, w := w, tgt := some (branchTarget pc imm), via := none, ubranch := false }

/-- The result of an accepted J-form word (R341). -/
def resultJump (mn : Mnemonic) (w pc : Word32) (target : BitVec 26) : Insn :=
  { mn := mn, form := .J, w := w, tgt := some (jumpTarget pc target), via := none, ubranch := false }

end Sys2Proof.Machine
end

