-- ==== Sys2Proof/Certificates/Slice0/Obligations.lean ====
section
/-! DEFINITION. The statements about the block, for the provers. Each docstring names the rules it rests on. -/

open Sys2Proof Sys2Proof.Machine

/-! ### Words and fields -/

/-- Every field of the three views stands at its bit position (30_encoding.md section 1, rules R81 to R84
(positions: decision D1)). -/
def Obligations.FieldPositions : Prop :=
  ∀ w : Word32,
    (opcodeOf w).toNat = w.toNat / 2 ^ 26 ∧
    (rsOf w).toNat = w.toNat / 2 ^ 21 % 2 ^ 5 ∧
    (rtOf w).toNat = w.toNat / 2 ^ 16 % 2 ^ 5 ∧
    (rdOf w).toNat = w.toNat / 2 ^ 11 % 2 ^ 5 ∧
    (shamtOf w).toNat = w.toNat / 2 ^ 6 % 2 ^ 5 ∧
    (functOf w).toNat = w.toNat % 2 ^ 6 ∧
    (immOf w).toNat = w.toNat % 2 ^ 16 ∧
    (targetOf w).toNat = w.toNat % 2 ^ 26

/-- Decode of encode i is i, for every well-formed instruction i (30_encoding.md sections 1 and 3; 41_rform.md
section 2; 42_iform.md section 2; 43_iform_regimm.md; 44_iform_cop.md sections 2 to 4; 45_jform.md). -/
def Obligations.DecodeInvertsEncode : Prop :=
  ∀ i : Instr, i.wellFormed = true → decode (encode i) = .ok i

/-- A word that decodes to i is the word of i, and i is well formed: no bit of a word is dropped (00_scope.md
section 4 (the word is kept, so every field is recoverable); 30_encoding.md sections 1 and 3). -/
def Obligations.EncodeInvertsDecode : Prop :=
  ∀ (w : Word32) (i : Instr), decode w = .ok i → i.wellFormed = true ∧ encode i = w

/-- A few words written out from the spec decode to the instructions they stand for (41_rform.md section 2;
42_iform.md section 2; 43_iform_regimm.md; 44_iform_cop.md; 45_jform.md; 60_exceptions.md section 1). -/
def Obligations.DecodedSanityWords : Prop :=
  decode 0x00000000#32 = .ok (.nopSll 0 0) ∧
  decode 0x00A61020#32 = .ok (.add 2 5 6) ∧
  decode 0x1000FFFF#32 = .ok (.beq 0 0 0xFFFF) ∧
  decode 0x8CA60010#32 = .ok (.lw 6 0x0010 5) ∧
  decode 0x04A10010#32 = .ok (.bgez 5 0x0010) ∧
  decode 0x411CFFFF#32 = .ok (.bc0f 7 0xFFFF) ∧
  decode 0x4626283C#32 = .ok (.cCondFmt 1 12 5 6 0) ∧
  decode 0x44800000#32 = .ok (.mtc1 0 0) ∧
  decode 0x0BFFFFFF#32 = .ok (.j 0x3FFFFFF) ∧
  decode 0xFFFFFFFF#32 = .error .unknownSelector ∧
  decode 0x42000018#32 = .error .unsupportedSubform ∧
  decode 0x00200000#32 = .error .malformedEncoding

/-- The decoder and the opcode table say the same of every word (30_encoding.md section 7, rule R100 (marked
derived)). -/
def Obligations.OpcodeTableAgrees : Prop :=
  ∀ w pc : Word32,
    match tableAnswer w with
    | .accepted row =>
      ∃ insn, tDefault.decode w pc = .accepted insn ∧ insn.mn = row.mn ∧ insn.form = row.form ∧
        insn.via = row.via
    | .malformedEncoding => tDefault.decode w pc = .rejected .malformedEncoding
    | .noEntry =>
      tDefault.decode w pc = .rejected .unknownSelector ∨ tDefault.decode w pc = .rejected .unsupportedSubform

/-! ### The decoder -/

/-- The decoder of the machine is the spec's decoder at its default tables, and exec does what an accepted word
does (46_dispatch.md rule R350; 41_rform.md rule R141; 42_iform.md rule R211; 44_iform_cop.md rule R280;
47_scanner.md rule R363). -/
def Obligations.DecoderIsDefaultProfile : Prop :=
  ∀ w pc : Word32,
    match decode w with
    | .ok i =>
      ∃ insn, tDefault.decode w pc = .accepted insn ∧
        ∀ s : State, s.programCounter = pc → exec i s = .next (s.accepted insn)
    | .error c => tDefault.decode w pc = .rejected c

/-- Of the 64 opcodes one routes to R-decode, two to J-decode and 61 to I-decode, in every well-formed profile
(R351). -/
def Obligations.RoutingSplitsOpcodes : Prop :=
  ∀ T : Profile, T.WellFormed →
    (List.range 64).countP (fun n => T.route (BitVec.ofNat 6 n) == .R) = 1 ∧
    (List.range 64).countP (fun n => T.route (BitVec.ofNat 6 n) == .J) = 2 ∧
    (List.range 64).countP (fun n => T.route (BitVec.ofNat 6 n) == .I) = 61 ∧
    (∀ w pc insn, T.decode w pc = .accepted insn → insn.form = T.route (opcodeOf w)) ∧
    ∀ w pc, T.route (opcodeOf w) = .J → ∃ insn, T.decode w pc = .accepted insn

/-- The all-ones word is rejected in every well-formed profile (30_encoding.md section 5 (W3); 42_iform.md rule
R218). -/
def Obligations.AllOnesWordRejected : Prop :=
  ∀ T : Profile, T.WellFormed → ∀ pc : Word32, T.decode 0xFFFFFFFF#32 pc = .rejected .unknownSelector

/-- The unconditional-branch pattern: when the mark is set, that every such word is accepted, and what the
scanner does with it (R214). -/
def Obligations.UnconditionalBranchPattern : Prop :=
  ∀ T : Profile, T.WellFormed →
    (∀ (w pc : Word32) (insn : Insn), T.decode w pc = .accepted insn →
      (insn.ubranch = true ↔ opcodeOf w = 4#6 ∧ rsOf w = 0#5 ∧ rtOf w = 0#5)) ∧
    (∀ (imm : BitVec 16) (pc : Word32), ∃ mn likely,
      T.iTable.lookup 4#6 = some (.direct mn .branchTwoRegister [] likely) ∧
      T.decode (iWord 4 0 0 imm) pc =
        .accepted { mn := mn, form := .I, w := iWord 4 0 0 imm, tgt := some (branchTarget pc imm),
                    via := none, ubranch := true }) ∧
    ∀ (s : State) (w : Word32) (insn : Insn), Reads s w → T.decode w s.programCounter = .accepted insn →
      (T.scanStep s).branchCount = s.branchCount + (if insn.ubranch = true then 1 else 0)

/-- J-decode accepts every word routed to it, with the jump target of its 26 low bits (R342). -/
def Obligations.JDecodeAlwaysAccepts : Prop :=
  ∀ T : Profile, T.WellFormed → ∀ w pc : Word32, T.route (opcodeOf w) = .J →
    (opcodeOf w = T.opJ ∧ T.decode w pc = .accepted (resultJump .j w pc (targetOf w))) ∨
    (opcodeOf w = T.opJal ∧ T.decode w pc = .accepted (resultJump .jal w pc (targetOf w)))

/-- Only the target value of a result depends on the program counter (46_dispatch.md rule R354 (marked
derived)). -/
def Obligations.OnlyTargetDependsOnPc : Prop :=
  ∀ (T : Profile) (w pc pc' : Word32), (T.decode w pc).pcFree = (T.decode w pc').pcFree

/-- The record of an accepted word: its word, its form, when it has a target, when it has a via (00_scope.md
section 4 (the record insn); 30_encoding.md section 6, rule R99). -/
def Obligations.ResultRecordShape : Prop :=
  ∀ (w pc : Word32) (insn : Insn), tDefault.decode w pc = .accepted insn →
    insn.w = w ∧ insn.form = tDefault.route (opcodeOf w) ∧
    (insn.tgt.isSome = (insn.mn.isBranchClass || insn.mn.isJumpClass)) ∧
    (insn.via.isSome = (insn.mn == .nop || insn.mn == .move)) ∧ insn.mn ≠ .sync

/-- The branch target is the signed immediate, times four, added to the program counter plus four (R86). -/
def Obligations.BranchTargetFormula : Prop :=
  (∀ (pc : Word32) (imm : BitVec 16),
    ((branchTarget pc imm).toNat : Int) = ((pc.toNat : Int) + 4 + 4 * imm.toInt) % 2 ^ 32) ∧
  (∀ pc : Word32,
    branchTarget pc 0xFFFF = pc ∧ branchTarget pc 0x0000 = pc + 4 ∧
    branchTarget pc 0x8000 = pc + 4 - 0x20000 ∧ branchTarget pc 0x7FFF = pc + 4 + 0x1FFFC) ∧
  branchTarget 0x1000 0x0004 = 0x1014 ∧
  ∀ (w pc : Word32) (insn : Insn), tDefault.decode w pc = .accepted insn → insn.mn.isBranchClass = true →
    insn.tgt = some (branchTarget pc (immOf w))

/-- The jump target is the 26 bits times four under the top four bits of the program counter plus four (R87). -/
def Obligations.JumpTargetFormula : Prop :=
  (∀ (pc : Word32) (target : BitVec 26),
    (jumpTarget pc target).toNat = (pc.toNat + 4) % 2 ^ 32 / 2 ^ 28 * 2 ^ 28 + target.toNat * 4) ∧
  jumpTarget 0x80000000 1 = 0x80000004 ∧
  ∀ (w pc : Word32) (insn : Insn), tDefault.decode w pc = .accepted insn → insn.mn.isJumpClass = true →
    insn.tgt = some (jumpTarget pc (targetOf w))

/-- UnknownSelector is the class of exactly the words whose opcode or function code is unmapped (41_rform.md
rules R144 and R202; 42_iform.md rules R218 and R255; 60_exceptions.md rule R421). -/
def Obligations.UnknownSelectorExactly : Prop :=
  ∀ w : Word32, decode w = .error .unknownSelector ↔
    (opcodeOf w = 0 ∧ functOf w ∈ ([1, 5, 10, 11, 14, 21, 40, 41, 53, 55, 57, 61] : List (BitVec 6))) ∨
    opcodeOf w ∈ ([19, 22, 23, 26, 27, 28, 29, 30, 31, 44, 45, 48, 50, 51, 52, 54, 56, 58, 59, 60, 62, 63] :
      List (BitVec 6))

/-- UnsupportedSubform is the class of exactly the regimm and coprocessor words that match no sub-form
(43_iform_regimm.md rules R260 and R275; 44_iform_cop.md rules R280 to R288; 60_exceptions.md rule R421). -/
def Obligations.UnsupportedSubformExactly : Prop :=
  ∀ w : Word32, decode w = .error .unsupportedSubform ↔
    (opcodeOf w = 1 ∧ rtOf w ∉ ([0, 1, 2, 3, 8, 9, 10, 11, 12, 14, 16, 17, 18, 19] : List (BitVec 5))) ∨
    (opcodeOf w ∈ ([16, 17, 18] : List (BitVec 6)) ∧
      rsOf w ∉ ([0, 1, 2, 4, 5, 6, 8] : List (BitVec 5)) ∧
      ¬ (opcodeOf w = 17 ∧ 16 ≤ (rsOf w).toNat ∧
        (functOf w ∈ ([0, 1, 2, 3, 4, 7, 12, 13, 14, 15, 32, 33, 36] : List (BitVec 6)) ∨
          compareWindowOf w = 3)))

/-- MalformedEncoding is the class of exactly the words of a mapped sub-form with a required-zero field that is
not zero (41_rform.md rules R141, R142 and R150 to R201; 42_iform.md rules R211 and R217; 44_iform_cop.md
rules R283, R286 and R287). -/
def Obligations.MalformedEncodingExactly : Prop :=
  ∀ w : Word32, decode w = .error .malformedEncoding ↔
    (opcodeOf w = 0 ∧
      ((functOf w ∈ ([0, 2, 3, 56, 58, 59, 60, 62, 63] : List (BitVec 6)) ∧ rsOf w ≠ 0) ∨
       (functOf w ∈ ([4, 6, 7, 20, 22, 23, 32, 33, 34, 35, 36, 37, 38, 39, 42, 43, 44, 45, 46, 47] :
          List (BitVec 6)) ∧ shamtOf w ≠ 0) ∨
       (functOf w ∈ ([8, 17, 19] : List (BitVec 6)) ∧ (rtOf w ≠ 0 ∨ rdOf w ≠ 0 ∨ shamtOf w ≠ 0)) ∨
       (functOf w = 9 ∧ (rtOf w ≠ 0 ∨ shamtOf w ≠ 0)) ∨
       (functOf w ∈ ([16, 18] : List (BitVec 6)) ∧ (rsOf w ≠ 0 ∨ rtOf w ≠ 0 ∨ shamtOf w ≠ 0)) ∨
       (functOf w ∈ ([24, 25, 26, 27, 28, 29, 30, 31] : List (BitVec 6)) ∧ (rdOf w ≠ 0 ∨ shamtOf w ≠ 0)))) ∨
    (opcodeOf w ∈ ([6, 7] : List (BitVec 6)) ∧ rtOf w ≠ 0) ∨
    (opcodeOf w = 15 ∧ rsOf w ≠ 0) ∨
    (opcodeOf w = 17 ∧ 16 ≤ (rsOf w).toNat ∧
      functOf w ∈ ([4, 7, 12, 13, 14, 15, 32, 33, 36] : List (BitVec 6)) ∧ rtOf w ≠ 0) ∨
    (opcodeOf w ∈ ([16, 17, 18] : List (BitVec 6)) ∧ rsOf w ∈ ([0, 1, 2, 4, 5, 6] : List (BitVec 5)) ∧
      immLow11Of w ≠ 0)

/-- The no-op and move aliases: exactly when they replace the table mnemonic (41_rform.md rules R141 and R145 to
R148 (the order is decision D11)). -/
def Obligations.AliasForms : Prop :=
  ∀ T : Profile, T.WellFormed → ∀ (w pc : Word32) (e : REntry),
    T.route (opcodeOf w) = .R → T.rTable.lookup (functOf w) = some e →
    (e.kind = .syncClass → T.decode w pc = .accepted (resultAlias .nop e.mn w)) ∧
    ∀ insn, T.decode w pc = .accepted insn →
      insn =
        if e.kind = .syncClass ∨ (e.kind = .shiftNop ∧ shamtOf w = 0#5) then resultAlias .nop e.mn w
        else if e.kind = .addMove ∧ rtOf w = 0#5 then resultAlias .move e.mn w
        else resultR e.mn w

/-- The format tag of a floating-point form never changes whether a word is accepted, nor its mnemonic
(44_iform_cop.md rules R282 and R285; 60_exceptions.md rule R423). -/
def Obligations.FormatTagNeverRejects : Prop :=
  ∀ (m m' : BitVec 4) (ft fs fd : BitVec 5) (funct : BitVec 6) (pc : Word32),
    (match tDefault.decode (rWord 17 (formatTag m) ft fs fd funct) pc with
      | .accepted insn => Except.ok insn.mn
      | .rejected c => Except.error c) =
    (match tDefault.decode (rWord 17 (formatTag m') ft fs fd funct) pc with
      | .accepted insn => Except.ok insn.mn
      | .rejected c => Except.error c)

/-- Which coprocessor words are rejected for want of a sub-form (44_iform_cop.md rule R288 (marked derived)). -/
def Obligations.CoprocessorRejections : Prop :=
  ∀ w : Word32,
    ((opcodeOf w = 16 ∨ opcodeOf w = 18) → rsOf w ∉ ([0, 1, 2, 4, 5, 6, 8] : List (BitVec 5)) →
      tDefault.accepts w = false) ∧
    (opcodeOf w = 17 → floatGateOf w = true →
      (tDefault.accepts w = true ↔
        functOf w ∈ ([0, 1, 2, 3] : List (BitVec 6)) ∨
        (functOf w ∈ ([4, 7, 12, 13, 14, 15, 32, 33, 36] : List (BitVec 6)) ∧ rtOf w = 0) ∨
        compareWindowOf w = 3)) ∧
    (opcodeOf w ∈ ([16, 17, 18] : List (BitVec 6)) →
      rsOf w ∈ ([3, 7, 9, 10, 11, 12, 13, 14, 15] : List (BitVec 5)) → tDefault.accepts w = false)

/-! ### The step of the scanner -/

/-- A step runs the instruction that the word at the read offset decodes to (47_scanner.md rules R363 and R364). -/
def Obligations.StepRunsDecodedInstruction : Prop :=
  ∀ (s : State) (w : Word32) (i : Instr), Reads s w → decode w = .ok i → step s = exec i s

/-- The step of the machine is the spec's Step over its default tables, at every state (47_scanner.md rule R363;
46_dispatch.md rule R350). -/
def Obligations.StepIsSpecStep : Prop :=
  ∀ s : State, step s = .next (tDefault.scanStep s)

/-- An accepted word emits its record, advances the program counter and the offset by four, and moves only its
own counter (R365). -/
def Obligations.AcceptedWordAdvances : Prop :=
  (∀ (s : State) (w : Word32) (insn : Insn), Reads s w →
    tDefault.decode w s.programCounter = .accepted insn →
    ∃ t, step s = .next t ∧
      AcceptedStep s t insn (if insn.form = .J then 1 else 0) (if insn.ubranch = true then 1 else 0) ∧
      t.fsm = .scanning ∧ t.offset.toNat = s.offset.toNat + 4) ∧
  ∀ s t : State, step s = .next t →
    (t.programCounter = s.programCounter ∧ t.offset = s.offset) ∨
    ∃ w insn, Reads s w ∧ tDefault.decode w s.programCounter = .accepted insn ∧
      t.programCounter = s.programCounter + 4 ∧ t.offset.toNat = s.offset.toNat + 4

/-- A rejected word of any class halts the scanner, and nothing but the boundary is written (R366). -/
def Obligations.RejectedWordHalts : Prop :=
  ∀ (s : State) (w : Word32) (c : RejectClass), Reads s w →
    tDefault.decode w s.programCounter = .rejected c →
    ∃ t, step s = .next t ∧ HaltedStep s t

/-- Where no whole word is left, the step makes the same transition as a rejection (47_scanner.md rule R367 (the
test is decision D14); 20_memory.md rule R56). -/
def Obligations.EndOfDataHalts : Prop :=
  ∀ s : State, AtEndOfData s → ∃ t, step s = .next t ∧ HaltedStep s t

/-- A halted scanner changes nothing, for any number of steps, until a reset (47_scanner.md rule R370;
60_exceptions.md rule R427; 70_reset_and_hazards.md rule R450). -/
def Obligations.HaltedIsTerminal : Prop :=
  ∀ s : State, s.fsm = .halted →
    (∀ n, Host.Core.run Sys2Proof.core n s = .next s) ∧
    ∃ t, clockEdge true s = .next t ∧ t.fsm = .scanning ∧ t.offset = s.scanStart

/-- A reset puts the scanner in the initial state of the inputs it holds, as the model reads it: records emptied,
inputs kept (log entries 6, 18, 19) (47_scanner.md rule R362; 10_state.md rule R33; 70_reset_and_hazards.md rules
R450 and R455; 92_eei_decisions.md D17 and D19). The emptied records, the kept inputs and the form of the reset are
the model's choices. -/
def Obligations.ResetStartsScan : Prop :=
  (∀ s : State, ∃ t, clockEdge true s = .next t ∧ t.fsm = .scanning ∧ t.programCounter = s.entryAddress ∧
    t.offset = s.scanStart ∧ t.jumpCount = 0 ∧ t.branchCount = 0 ∧ t.boundaryValid = false ∧
    t.records = [] ∧ SameInputs s t) ∧
  State.reset.fsm = .scanning ∧ State.reset.programCounter = State.reset.entryAddress ∧
  State.reset.offset = State.reset.scanStart ∧ State.reset.jumpCount = 0 ∧ State.reset.branchCount = 0 ∧
  State.reset.boundaryValid = false ∧ State.reset.records = []

/-- The output ports show the record the step emits, whether the scanner has halted, and a debug class of 0 exactly
with a record (92_eei_decisions.md D17 and D18 (the interface is the spec's choice); 47_scanner.md rule R371). The
form of the ports is log entry 19. -/
def Obligations.PortsShowTheStep : Prop :=
  ∀ s t : State, step s = .next t →
    t.records = s.records ++ s.ports.record.toList ∧
    (s.ports.halted = true ↔ s.fsm = .halted) ∧
    (ScanInvariant s → s.ports.boundaryValid = s.ports.halted) ∧
    (s.ports.debugClass = some 0#2 ↔ s.ports.record.isSome = true)

/-- Once halted the ports show the boundary, the next offset and the two counters, and keep showing them until a
reset (92_eei_decisions.md D17 (the interface is the spec's choice); 10_state.md rules R26 and R34; 47_scanner.md
rules R361, R370 and R374). The clock edge that changes nothing is the model's choice of log entry 10. -/
def Obligations.PortsShowTheBoundary : Prop :=
  ∀ s : State, ScanInvariant s → s.fsm = .halted →
    s.ports.boundaryValid = true ∧ s.ports.binaryStart = s.offset ∧ s.ports.imgAddr = s.offset ∧
    (4 ≤ s.offset.toNat → s.ports.boundaryOffset.toNat + 4 = s.offset.toNat) ∧
    s.ports.jumpCount.toNat = s.records.countP (fun r => countsJump r.insn) ∧
    s.ports.branchCount.toNat = s.records.countP (fun r => countsBranch r.insn) ∧
    s.ports.record = none ∧ s.ports.debugClass = none ∧
    ∃ t, clockEdge false s = .next t ∧ t.ports = s.ports

/-! ### Invariants -/

/-- The invariants of the scan hold where a scan starts (10_state.md rules R33 and R34). -/
def Obligations.ScanInvariantAtStart : Prop :=
  (∀ s : State, ScanInvariant s.startScan) ∧ ScanInvariant State.reset

/-- Every step keeps the invariants of the scan (10_state.md rule R34 (marked derived); 47_scanner.md rules R363
to R371). -/
def Obligations.ScanInvariantKept : Prop :=
  ∀ s t : State, ScanInvariant s → step s = .next t → ScanInvariant t

/-- No step changes an input or a byte of the image (10_state.md rules R28 and R32; 20_memory.md rules R50 and
R54). -/
def Obligations.InputsHeldConstant : Prop :=
  (∀ s t : State, step s = .next t → SameInputs s t) ∧
  ∀ (i : Instr) (s t : State), exec i s = .next t → SameInputs s t

/-- Loading an image, placing a word and stepping keep the image in its canonical form (20_memory.md rule R50). -/
def Obligations.ImageStaysSound : Prop :=
  (∀ (bytes : List Byte) (entry start : Word32) (order : ByteOrder), bytes.length < 2 ^ 32 →
    ImageSound (State.ofInputs bytes entry start order)) ∧
  (∀ (s : State) (nbits w : Nat), ImageSound s → s.offset.toNat + 4 < 2 ^ 32 →
    ImageSound (s.withFetchWord nbits w)) ∧
  ∀ s t : State, ImageSound s → step s = .next t → ImageSound t

/-- The two counters together never exceed the number of accepted words, which stays below 2^30 (10_state.md
rules R34 and R35 (marked derived)). -/
def Obligations.CountersBounded : Prop :=
  ∀ s : State, ScanInvariant s →
    s.jumpCount.toNat + s.branchCount.toNat ≤ s.records.length ∧
    (s.scanStart.toNat ≤ s.imageSize.toNat →
      s.records.length ≤ (s.imageSize.toNat - s.scanStart.toNat) / 4 ∧ s.records.length < 2 ^ 30)

/-- The output records stand in strictly rising address order (R61). -/
def Obligations.RecordsInAddressOrder : Prop :=
  ∀ s : State, ScanInvariant s →
    s.records.Pairwise (fun r r' => r.offset.toNat < r'.offset.toNat) ∧
    (∀ k r r', s.records[k]? = some r → s.records[k + 1]? = some r' →
      r'.offset.toNat = r.offset.toNat + 4 ∧ r'.programCounter = r.programCounter + 4) ∧
    ∀ (p : RenderParams) (k : Nat), (s.lines p)[k]? = (s.records[k]?).map (fun r : Record => render p r.insn r.programCounter)

/-! ### The whole scan -/

/-- Every scan reaches Halted within the bound; that the machine then answers the same state for ever is the model's
choice (log entry 10) (47_scanner.md rule R373 (marked derived); 47_scanner.md rule R370;
93_implementation_defined.md U15). -/
def Obligations.ScanTerminates : Prop :=
  ∀ s : State, ∃ t, Host.Core.run Sys2Proof.core (stepBound s) s = .next t ∧ t.fsm = .halted ∧
    ∀ n, Host.Core.run Sys2Proof.core (stepBound s + n) s = .next t

/-- The state a scan ends in, as a function of the words it accepts, for every well-formed profile
(47_scanner.md rule R375 (marked derived)). -/
def Obligations.ScanClosedForm : Prop :=
  ∀ T : Profile, T.WellFormed → ∀ s : State, s.fsm = .scanning →
    (T.scan s).fsm = .halted ∧ (T.scan s).boundaryValid = true ∧
    (T.scan s).binaryStart.toNat = s.offset.toNat + 4 * (T.acceptedAhead s).length ∧
    (T.scan s).binaryStart = (T.scan s).offset ∧
    (4 ≤ s.offset.toNat + 4 * (T.acceptedAhead s).length →
      (T.scan s).boundaryOffset.toNat + 4 = (T.scan s).binaryStart.toNat) ∧
    (T.scan s).programCounter = s.programCounter + BitVec.ofNat 32 (4 * (T.acceptedAhead s).length) ∧
    (T.scan s).records.map Record.word = s.records.map Record.word ++ T.acceptedAhead s ∧
    (T.scan s).jumpCount =
      s.jumpCount + BitVec.ofNat 32 ((T.acceptedAhead s).countP (fun w => T.jumpWord w)) ∧
    (T.scan s).branchCount =
      s.branchCount + BitVec.ofNat 32 ((T.acceptedAhead s).countP unconditionalWord) ∧
    SameInputs s (T.scan s)

/-- The boundary and the counters do not depend on the entry address (46_dispatch.md rule R354 (marked
derived)). -/
def Obligations.BoundaryIndependentOfEntry : Prop :=
  ∀ (T : Profile) (s : State) (pc entry : Word32),
    let a := T.scan s
    let b := T.scan { s with programCounter := pc, entryAddress := entry }
    b.fsm = a.fsm ∧ b.boundaryValid = a.boundaryValid ∧ b.boundaryOffset = a.boundaryOffset ∧
    b.binaryStart = a.binaryStart ∧ b.offset = a.offset ∧ b.jumpCount = a.jumpCount ∧
    b.branchCount = a.branchCount ∧ b.records.map Record.word = a.records.map Record.word

/-- An image of N valid words followed by a word that does not decode: the boundary stands at the last valid
word, the counters match a hand count (R377). -/
def Obligations.EndToEndBoundary : Prop :=
  ∀ (boot rest : List Byte) (valid : List Word32) (bad entry : Word32) (order : ByteOrder),
    4 ∣ boot.length →
    (∀ w ∈ valid, tDefault.accepts w = true) → tDefault.accepts bad = false →
    (boot ++ valid.flatMap (wordBytes order) ++ wordBytes order bad ++ rest).length < 2 ^ 32 →
    ∃ t, Host.Core.run Sys2Proof.core (valid.length + 1)
        (State.ofInputs (boot ++ valid.flatMap (wordBytes order) ++ wordBytes order bad ++ rest) entry
          (BitVec.ofNat 32 boot.length) order) = .next t ∧
      t.fsm = .halted ∧
      t.binaryStart.toNat = boot.length + 4 * valid.length ∧
      (0 < boot.length + valid.length → t.boundaryOffset.toNat + 4 = boot.length + 4 * valid.length) ∧
      t.records.map Record.word = valid ∧
      t.jumpCount.toNat = valid.countP (fun w => opcodeOf w == 2 || opcodeOf w == 3) ∧
      t.branchCount.toNat = valid.countP unconditionalWord

/-- Ten no-op words and an all-ones word: boundary 36, binary start 40, ten records (R376). -/
def Obligations.NoOpStreamExample : Prop :=
  ∀ entry : Word32, ∃ t,
    Host.Core.run Sys2Proof.core 11
      (State.ofInputs (List.replicate 40 0#8 ++ List.replicate 4 0xFF#8) entry 0 .big) = .next t ∧
    t.fsm = .halted ∧ t.boundaryOffset = 36 ∧ t.binaryStart = 40 ∧ t.records.length = 10

/-! ### The image -/

/-- A word read from the image is its four bytes in the byte order of the scan, and nothing outside the image is
read (20_memory.md rules R52 and R56 (byte order: decision D2; test: decision D14)). -/
def Obligations.ImageReadAssembles : Prop :=
  ∀ (s : State) (off : Nat),
    (imgRead32 s off = none ↔ off + 4 > s.imageSize.toNat) ∧
    ∀ w, imgRead32 s off = some w →
      let b := fun k => (Memory.readByte s.image (off + k)).toNat
      w.toNat =
        match s.byteOrder with
        | .big => b 0 * 2 ^ 24 + b 1 * 2 ^ 16 + b 2 * 2 ^ 8 + b 3
        | .little => b 3 * 2 ^ 24 + b 2 * 2 ^ 16 + b 1 * 2 ^ 8 + b 0

/-- The model's own load operation (log entry 11): a word it places at the read offset is the word the next step
runs, and no other byte moves (20_memory.md section 2 (how the word is read back); 47_scanner.md section 2 (the step
that reads it)). No rule of the spec has this operation: it is the model's choice. -/
def Obligations.PlacedWordIsFetched : Prop :=
  ∀ (s : State) (nbits w : Nat), Memory.wf s.image = true → s.offset.toNat + 4 < 2 ^ 32 →
    Reads (s.withFetchWord nbits w) (tableWord nbits w) ∧
    (∀ i, decode (tableWord nbits w) = .ok i →
      step (s.withFetchWord nbits w) = exec i (s.withFetchWord nbits w)) ∧
    (∀ a, a < s.offset.toNat ∨ s.offset.toNat + 4 ≤ a →
      Memory.readByte (s.withFetchWord nbits w).image a = Memory.readByte s.image a) ∧
    s.imageSize.toNat ≤ (s.withFetchWord nbits w).imageSize.toNat ∧
    { s.withFetchWord nbits w with fsm := s.fsm, image := s.image, imageSize := s.imageSize } = s

/-! ### Each instruction -/

/-- Each shift completes: no-op of a zero amount, the nine immediate shifts, the six variable shifts
(41_rform.md rules R145, R148, R150 to R155, R165 to R167 and R196 to R201). -/
def Obligations.ShiftsComplete : Prop :=
  ∀ (s : State) (rd rt shamt rs : BitVec 5),
    RunsAs (.nopSll rd rt) s (resultAlias .nop .sll (rWord 0 0 rt rd 0 0)) 0 0 ∧
    (shamt ≠ 0#5 → RunsAs (.sll rd rt shamt) s (resultR .sll (rWord 0 0 rt rd shamt 0)) 0 0) ∧
    RunsAs (.srl rd rt shamt) s (resultR .srl (rWord 0 0 rt rd shamt 2)) 0 0 ∧
    RunsAs (.sra rd rt shamt) s (resultR .sra (rWord 0 0 rt rd shamt 3)) 0 0 ∧
    RunsAs (.dsll rd rt shamt) s (resultR .dsll (rWord 0 0 rt rd shamt 56)) 0 0 ∧
    RunsAs (.dsrl rd rt shamt) s (resultR .dsrl (rWord 0 0 rt rd shamt 58)) 0 0 ∧
    RunsAs (.dsra rd rt shamt) s (resultR .dsra (rWord 0 0 rt rd shamt 59)) 0 0 ∧
    RunsAs (.dsll32 rd rt shamt) s (resultR .dsll32 (rWord 0 0 rt rd shamt 60)) 0 0 ∧
    RunsAs (.dsrl32 rd rt shamt) s (resultR .dsrl32 (rWord 0 0 rt rd shamt 62)) 0 0 ∧
    RunsAs (.dsra32 rd rt shamt) s (resultR .dsra32 (rWord 0 0 rt rd shamt 63)) 0 0 ∧
    RunsAs (.sllv rd rt rs) s (resultR .sllv (rWord 0 rs rt rd 0 4)) 0 0 ∧
    RunsAs (.srlv rd rt rs) s (resultR .srlv (rWord 0 rs rt rd 0 6)) 0 0 ∧
    RunsAs (.srav rd rt rs) s (resultR .srav (rWord 0 rs rt rd 0 7)) 0 0 ∧
    RunsAs (.dsllv rd rt rs) s (resultR .dsllv (rWord 0 rs rt rd 0 20)) 0 0 ∧
    RunsAs (.dsrlv rd rt rs) s (resultR .dsrlv (rWord 0 rs rt rd 0 22)) 0 0 ∧
    RunsAs (.dsrav rd rt rs) s (resultR .dsrav (rWord 0 rs rt rd 0 23)) 0 0

/-- Each of jr, jalr, syscall, break, the sync-class no-op and the four hi and lo moves completes (41_rform.md
rules R146, R148, R156 to R164). -/
def Obligations.RegisterJumpsAndSpecialsComplete : Prop :=
  ∀ (s : State) (rs rd : BitVec 5) (code bits : BitVec 20),
    RunsAs (.jr rs) s (resultR .jr (rWord 0 rs 0 0 0 8)) 0 0 ∧
    RunsAs (.jalr rd rs) s (resultR .jalr (rWord 0 rs 0 rd 0 9)) 0 0 ∧
    RunsAs (.syscall code) s (resultR .syscall (jWord 0 (code ++ 12#6))) 0 0 ∧
    RunsAs (.brk code) s (resultR .brk (jWord 0 (code ++ 13#6))) 0 0 ∧
    RunsAs (.nopSync bits) s (resultAlias .nop .sync (jWord 0 (bits ++ 15#6))) 0 0 ∧
    RunsAs (.mfhi rd) s (resultR .mfhi (rWord 0 0 0 rd 0 16)) 0 0 ∧
    RunsAs (.mthi rs) s (resultR .mthi (rWord 0 rs 0 0 0 17)) 0 0 ∧
    RunsAs (.mflo rd) s (resultR .mflo (rWord 0 0 0 rd 0 18)) 0 0 ∧
    RunsAs (.mtlo rs) s (resultR .mtlo (rWord 0 rs 0 0 0 19)) 0 0

/-- Each multiply and divide completes (41_rform.md rules R148 and R168 to R175). -/
def Obligations.MultiplyDivideComplete : Prop :=
  ∀ (s : State) (rs rt : BitVec 5),
    RunsAs (.mult rs rt) s (resultR .mult (rWord 0 rs rt 0 0 24)) 0 0 ∧
    RunsAs (.multu rs rt) s (resultR .multu (rWord 0 rs rt 0 0 25)) 0 0 ∧
    RunsAs (.div rs rt) s (resultR .div (rWord 0 rs rt 0 0 26)) 0 0 ∧
    RunsAs (.divu rs rt) s (resultR .divu (rWord 0 rs rt 0 0 27)) 0 0 ∧
    RunsAs (.dmult rs rt) s (resultR .dmult (rWord 0 rs rt 0 0 28)) 0 0 ∧
    RunsAs (.dmultu rs rt) s (resultR .dmultu (rWord 0 rs rt 0 0 29)) 0 0 ∧
    RunsAs (.ddiv rs rt) s (resultR .ddiv (rWord 0 rs rt 0 0 30)) 0 0 ∧
    RunsAs (.ddivu rs rt) s (resultR .ddivu (rWord 0 rs rt 0 0 31)) 0 0

/-- Each three-register form completes, and move (41_rform.md rules R147, R148 and R176 to R189). -/
def Obligations.ThreeRegisterFormsComplete : Prop :=
  ∀ (s : State) (rd rs rt : BitVec 5),
    RunsAs (.add rd rs rt) s (resultR .add (rWord 0 rs rt rd 0 32)) 0 0 ∧
    RunsAs (.move rd rs) s (resultAlias .move .addu (rWord 0 rs 0 rd 0 33)) 0 0 ∧
    (rt ≠ 0#5 → RunsAs (.addu rd rs rt) s (resultR .addu (rWord 0 rs rt rd 0 33)) 0 0) ∧
    RunsAs (.sub rd rs rt) s (resultR .sub (rWord 0 rs rt rd 0 34)) 0 0 ∧
    RunsAs (.subu rd rs rt) s (resultR .subu (rWord 0 rs rt rd 0 35)) 0 0 ∧
    RunsAs (.and rd rs rt) s (resultR .and (rWord 0 rs rt rd 0 36)) 0 0 ∧
    RunsAs (.or rd rs rt) s (resultR .or (rWord 0 rs rt rd 0 37)) 0 0 ∧
    RunsAs (.xor rd rs rt) s (resultR .xor (rWord 0 rs rt rd 0 38)) 0 0 ∧
    RunsAs (.nor rd rs rt) s (resultR .nor (rWord 0 rs rt rd 0 39)) 0 0 ∧
    RunsAs (.slt rd rs rt) s (resultR .slt (rWord 0 rs rt rd 0 42)) 0 0 ∧
    RunsAs (.sltu rd rs rt) s (resultR .sltu (rWord 0 rs rt rd 0 43)) 0 0 ∧
    RunsAs (.dadd rd rs rt) s (resultR .dadd (rWord 0 rs rt rd 0 44)) 0 0 ∧
    RunsAs (.daddu rd rs rt) s (resultR .daddu (rWord 0 rs rt rd 0 45)) 0 0 ∧
    RunsAs (.dsub rd rs rt) s (resultR .dsub (rWord 0 rs rt rd 0 46)) 0 0 ∧
    RunsAs (.dsubu rd rs rt) s (resultR .dsubu (rWord 0 rs rt rd 0 47)) 0 0

/-- Each of the six trap function codes completes (41_rform.md rules R148 and R190 to R195). -/
def Obligations.TrapFormsComplete : Prop :=
  ∀ (s : State) (rs rt : BitVec 5) (code : BitVec 10),
    RunsAs (.tge rs rt code) s (resultR .tge (iWord 0 rs rt (code ++ 48#6))) 0 0 ∧
    RunsAs (.tgeu rs rt code) s (resultR .tgeu (iWord 0 rs rt (code ++ 49#6))) 0 0 ∧
    RunsAs (.tlt rs rt code) s (resultR .tlt (iWord 0 rs rt (code ++ 50#6))) 0 0 ∧
    RunsAs (.tltu rs rt code) s (resultR .tltu (iWord 0 rs rt (code ++ 51#6))) 0 0 ∧
    RunsAs (.teq rs rt code) s (resultR .teq (iWord 0 rs rt (code ++ 52#6))) 0 0 ∧
    RunsAs (.tne rs rt code) s (resultR .tne (iWord 0 rs rt (code ++ 54#6))) 0 0

/-- Each direct branch completes with its target; only beq with both registers zero is counted (42_iform.md
rules R212 to R214, R219, R220 to R223, R232 and R233). -/
def Obligations.DirectBranchesComplete : Prop :=
  ∀ (s : State) (rs rt : BitVec 5) (imm : BitVec 16),
    RunsAs (.beq rs rt imm) s
      { mn := .beq, form := .I, w := iWord 4 rs rt imm, tgt := some (branchTarget s.programCounter imm),
        via := none, ubranch := rs == 0#5 && rt == 0#5 }
      0 (if rs = 0#5 ∧ rt = 0#5 then 1 else 0) ∧
    RunsAs (.bne rs rt imm) s (resultBranch .bne (iWord 5 rs rt imm) s.programCounter imm) 0 0 ∧
    RunsAs (.blez rs imm) s (resultBranch .blez (iWord 6 rs 0 imm) s.programCounter imm) 0 0 ∧
    RunsAs (.bgtz rs imm) s (resultBranch .bgtz (iWord 7 rs 0 imm) s.programCounter imm) 0 0 ∧
    RunsAs (.beql rs rt imm) s (resultBranch .beql (iWord 20 rs rt imm) s.programCounter imm) 0 0 ∧
    RunsAs (.bnel rs rt imm) s (resultBranch .bnel (iWord 21 rs rt imm) s.programCounter imm) 0 0

/-- Each immediate-arithmetic form and lui completes (42_iform.md rules R216, R219, R224 to R231, R234 and
R235). -/
def Obligations.ImmediateArithmeticComplete : Prop :=
  ∀ (s : State) (rt rs : BitVec 5) (imm : BitVec 16),
    RunsAs (.addi rt rs imm) s (resultI .addi (iWord 8 rs rt imm)) 0 0 ∧
    RunsAs (.addiu rt rs imm) s (resultI .addiu (iWord 9 rs rt imm)) 0 0 ∧
    RunsAs (.slti rt rs imm) s (resultI .slti (iWord 10 rs rt imm)) 0 0 ∧
    RunsAs (.sltiu rt rs imm) s (resultI .sltiu (iWord 11 rs rt imm)) 0 0 ∧
    RunsAs (.andi rt rs imm) s (resultI .andi (iWord 12 rs rt imm)) 0 0 ∧
    RunsAs (.ori rt rs imm) s (resultI .ori (iWord 13 rs rt imm)) 0 0 ∧
    RunsAs (.xori rt rs imm) s (resultI .xori (iWord 14 rs rt imm)) 0 0 ∧
    RunsAs (.lui rt imm) s (resultI .lui (iWord 15 0 rt imm)) 0 0 ∧
    RunsAs (.daddi rt rs imm) s (resultI .daddi (iWord 24 rs rt imm)) 0 0 ∧
    RunsAs (.daddiu rt rs imm) s (resultI .daddiu (iWord 25 rs rt imm)) 0 0

/-- Each load, store and cache form completes and touches no byte (42_iform.md rules R215, R219 and R236 to
R254). -/
def Obligations.MemoryFormsComplete : Prop :=
  ∀ (s : State) (rt rs op ft : BitVec 5) (imm : BitVec 16),
    RunsAs (.lb rt imm rs) s (resultI .lb (iWord 32 rs rt imm)) 0 0 ∧
    RunsAs (.lh rt imm rs) s (resultI .lh (iWord 33 rs rt imm)) 0 0 ∧
    RunsAs (.lwl rt imm rs) s (resultI .lwl (iWord 34 rs rt imm)) 0 0 ∧
    RunsAs (.lw rt imm rs) s (resultI .lw (iWord 35 rs rt imm)) 0 0 ∧
    RunsAs (.lbu rt imm rs) s (resultI .lbu (iWord 36 rs rt imm)) 0 0 ∧
    RunsAs (.lhu rt imm rs) s (resultI .lhu (iWord 37 rs rt imm)) 0 0 ∧
    RunsAs (.lwr rt imm rs) s (resultI .lwr (iWord 38 rs rt imm)) 0 0 ∧
    RunsAs (.lwu rt imm rs) s (resultI .lwu (iWord 39 rs rt imm)) 0 0 ∧
    RunsAs (.sb rt imm rs) s (resultI .sb (iWord 40 rs rt imm)) 0 0 ∧
    RunsAs (.sh rt imm rs) s (resultI .sh (iWord 41 rs rt imm)) 0 0 ∧
    RunsAs (.swl rt imm rs) s (resultI .swl (iWord 42 rs rt imm)) 0 0 ∧
    RunsAs (.sw rt imm rs) s (resultI .sw (iWord 43 rs rt imm)) 0 0 ∧
    RunsAs (.swr rt imm rs) s (resultI .swr (iWord 46 rs rt imm)) 0 0 ∧
    RunsAs (.cache op imm rs) s (resultI .cache (iWord 47 rs op imm)) 0 0 ∧
    RunsAs (.lwc1 ft imm rs) s (resultI .lwc1 (iWord 49 rs ft imm)) 0 0 ∧
    RunsAs (.ldc1 ft imm rs) s (resultI .ldc1 (iWord 53 rs ft imm)) 0 0 ∧
    RunsAs (.ld rt imm rs) s (resultI .ld (iWord 55 rs rt imm)) 0 0 ∧
    RunsAs (.swc1 ft imm rs) s (resultI .swc1 (iWord 57 rs ft imm)) 0 0 ∧
    RunsAs (.sdc1 ft imm rs) s (resultI .sdc1 (iWord 61 rs ft imm)) 0 0

/-- Each regimm form completes, the eight branches with their target (43_iform_regimm.md rules R260 to R274;
42_iform.md rules R212 and R219). -/
def Obligations.RegimmFormsComplete : Prop :=
  ∀ (s : State) (rs : BitVec 5) (imm : BitVec 16),
    RunsAs (.bltz rs imm) s (resultBranch .bltz (iWord 1 rs 0 imm) s.programCounter imm) 0 0 ∧
    RunsAs (.bgez rs imm) s (resultBranch .bgez (iWord 1 rs 1 imm) s.programCounter imm) 0 0 ∧
    RunsAs (.bltzl rs imm) s (resultBranch .bltzl (iWord 1 rs 2 imm) s.programCounter imm) 0 0 ∧
    RunsAs (.bgezl rs imm) s (resultBranch .bgezl (iWord 1 rs 3 imm) s.programCounter imm) 0 0 ∧
    RunsAs (.tgei rs imm) s (resultI .tgei (iWord 1 rs 8 imm)) 0 0 ∧
    RunsAs (.tgeiu rs imm) s (resultI .tgeiu (iWord 1 rs 9 imm)) 0 0 ∧
    RunsAs (.tlti rs imm) s (resultI .tlti (iWord 1 rs 10 imm)) 0 0 ∧
    RunsAs (.tltiu rs imm) s (resultI .tltiu (iWord 1 rs 11 imm)) 0 0 ∧
    RunsAs (.teqi rs imm) s (resultI .teqi (iWord 1 rs 12 imm)) 0 0 ∧
    RunsAs (.tnei rs imm) s (resultI .tnei (iWord 1 rs 14 imm)) 0 0 ∧
    RunsAs (.bltzal rs imm) s (resultBranch .bltzal (iWord 1 rs 16 imm) s.programCounter imm) 0 0 ∧
    RunsAs (.bgezal rs imm) s (resultBranch .bgezal (iWord 1 rs 17 imm) s.programCounter imm) 0 0 ∧
    RunsAs (.bltzall rs imm) s (resultBranch .bltzall (iWord 1 rs 18 imm) s.programCounter imm) 0 0 ∧
    RunsAs (.bgezall rs imm) s (resultBranch .bgezall (iWord 1 rs 19 imm) s.programCounter imm) 0 0

/-- Each coprocessor branch completes with its target, whatever the three untested bits (44_iform_cop.md rules
R281, R289 and R290 to R301). -/
def Obligations.CoprocessorBranchesComplete : Prop :=
  ∀ (s : State) (x : BitVec 3) (imm : BitVec 16),
    RunsAs (.bc0f x imm) s (resultBranch .bc0f (iWord 16 8 (x ++ 0#2) imm) s.programCounter imm) 0 0 ∧
    RunsAs (.bc0t x imm) s (resultBranch .bc0t (iWord 16 8 (x ++ 1#2) imm) s.programCounter imm) 0 0 ∧
    RunsAs (.bc0fl x imm) s (resultBranch .bc0fl (iWord 16 8 (x ++ 2#2) imm) s.programCounter imm) 0 0 ∧
    RunsAs (.bc0tl x imm) s (resultBranch .bc0tl (iWord 16 8 (x ++ 3#2) imm) s.programCounter imm) 0 0 ∧
    RunsAs (.bc1f x imm) s (resultBranch .bc1f (iWord 17 8 (x ++ 0#2) imm) s.programCounter imm) 0 0 ∧
    RunsAs (.bc1t x imm) s (resultBranch .bc1t (iWord 17 8 (x ++ 1#2) imm) s.programCounter imm) 0 0 ∧
    RunsAs (.bc1fl x imm) s (resultBranch .bc1fl (iWord 17 8 (x ++ 2#2) imm) s.programCounter imm) 0 0 ∧
    RunsAs (.bc1tl x imm) s (resultBranch .bc1tl (iWord 17 8 (x ++ 3#2) imm) s.programCounter imm) 0 0 ∧
    RunsAs (.bc2f x imm) s (resultBranch .bc2f (iWord 18 8 (x ++ 0#2) imm) s.programCounter imm) 0 0 ∧
    RunsAs (.bc2t x imm) s (resultBranch .bc2t (iWord 18 8 (x ++ 1#2) imm) s.programCounter imm) 0 0 ∧
    RunsAs (.bc2fl x imm) s (resultBranch .bc2fl (iWord 18 8 (x ++ 2#2) imm) s.programCounter imm) 0 0 ∧
    RunsAs (.bc2tl x imm) s (resultBranch .bc2tl (iWord 18 8 (x ++ 3#2) imm) s.programCounter imm) 0 0

/-- Each floating-point form completes under every format tag (44_iform_cop.md rules R283 to R285, R289 and R302
to R315). -/
def Obligations.FloatingPointFormsComplete : Prop :=
  ∀ (s : State) (x : BitVec 3) (m cond : BitVec 4) (fd fs ft : BitVec 5),
    RunsAs (.addFmt m fd fs ft) s (resultI .addFmt (rWord 17 (formatTag m) ft fs fd 0)) 0 0 ∧
    RunsAs (.subFmt m fd fs ft) s (resultI .subFmt (rWord 17 (formatTag m) ft fs fd 1)) 0 0 ∧
    RunsAs (.mulFmt m fd fs ft) s (resultI .mulFmt (rWord 17 (formatTag m) ft fs fd 2)) 0 0 ∧
    RunsAs (.divFmt m fd fs ft) s (resultI .divFmt (rWord 17 (formatTag m) ft fs fd 3)) 0 0 ∧
    RunsAs (.sqrtFmt m fd fs) s (resultI .sqrtFmt (rWord 17 (formatTag m) 0 fs fd 4)) 0 0 ∧
    RunsAs (.negFmt m fd fs) s (resultI .negFmt (rWord 17 (formatTag m) 0 fs fd 7)) 0 0 ∧
    RunsAs (.roundWFmt m fd fs) s (resultI .roundWFmt (rWord 17 (formatTag m) 0 fs fd 12)) 0 0 ∧
    RunsAs (.truncWFmt m fd fs) s (resultI .truncWFmt (rWord 17 (formatTag m) 0 fs fd 13)) 0 0 ∧
    RunsAs (.ceilWFmt m fd fs) s (resultI .ceilWFmt (rWord 17 (formatTag m) 0 fs fd 14)) 0 0 ∧
    RunsAs (.floorWFmt m fd fs) s (resultI .floorWFmt (rWord 17 (formatTag m) 0 fs fd 15)) 0 0 ∧
    RunsAs (.cvtSFmt m fd fs) s (resultI .cvtSFmt (rWord 17 (formatTag m) 0 fs fd 32)) 0 0 ∧
    RunsAs (.cvtDFmt m fd fs) s (resultI .cvtDFmt (rWord 17 (formatTag m) 0 fs fd 33)) 0 0 ∧
    RunsAs (.cvtWFmt m fd fs) s (resultI .cvtWFmt (rWord 17 (formatTag m) 0 fs fd 36)) 0 0 ∧
    RunsAs (.cCondFmt m cond fs ft x) s (resultI .cCondFmt (iWord 17 (formatTag m) ft (fs ++ x ++ 3#4 ++ cond))) 0 0

/-- Each coprocessor move completes (44_iform_cop.md rules R286, R289 and R316 to R333). -/
def Obligations.CoprocessorMovesComplete : Prop :=
  ∀ (s : State) (rt rd : BitVec 5),
    RunsAs (.mfc0 rt rd) s (resultI .mfc0 (iWord 16 0 rt (rd ++ 0#11))) 0 0 ∧
    RunsAs (.dmfc0 rt rd) s (resultI .dmfc0 (iWord 16 1 rt (rd ++ 0#11))) 0 0 ∧
    RunsAs (.cfc0 rt rd) s (resultI .cfc0 (iWord 16 2 rt (rd ++ 0#11))) 0 0 ∧
    RunsAs (.mtc0 rt rd) s (resultI .mtc0 (iWord 16 4 rt (rd ++ 0#11))) 0 0 ∧
    RunsAs (.dmtc0 rt rd) s (resultI .dmtc0 (iWord 16 5 rt (rd ++ 0#11))) 0 0 ∧
    RunsAs (.ctc0 rt rd) s (resultI .ctc0 (iWord 16 6 rt (rd ++ 0#11))) 0 0 ∧
    RunsAs (.mfc1 rt rd) s (resultI .mfc1 (iWord 17 0 rt (rd ++ 0#11))) 0 0 ∧
    RunsAs (.dmfc1 rt rd) s (resultI .dmfc1 (iWord 17 1 rt (rd ++ 0#11))) 0 0 ∧
    RunsAs (.cfc1 rt rd) s (resultI .cfc1 (iWord 17 2 rt (rd ++ 0#11))) 0 0 ∧
    RunsAs (.mtc1 rt rd) s (resultI .mtc1 (iWord 17 4 rt (rd ++ 0#11))) 0 0 ∧
    RunsAs (.dmtc1 rt rd) s (resultI .dmtc1 (iWord 17 5 rt (rd ++ 0#11))) 0 0 ∧
    RunsAs (.ctc1 rt rd) s (resultI .ctc1 (iWord 17 6 rt (rd ++ 0#11))) 0 0 ∧
    RunsAs (.mfc2 rt rd) s (resultI .mfc2 (iWord 18 0 rt (rd ++ 0#11))) 0 0 ∧
    RunsAs (.dmfc2 rt rd) s (resultI .dmfc2 (iWord 18 1 rt (rd ++ 0#11))) 0 0 ∧
    RunsAs (.cfc2 rt rd) s (resultI .cfc2 (iWord 18 2 rt (rd ++ 0#11))) 0 0 ∧
    RunsAs (.mtc2 rt rd) s (resultI .mtc2 (iWord 18 4 rt (rd ++ 0#11))) 0 0 ∧
    RunsAs (.dmtc2 rt rd) s (resultI .dmtc2 (iWord 18 5 rt (rd ++ 0#11))) 0 0 ∧
    RunsAs (.ctc2 rt rd) s (resultI .ctc2 (iWord 18 6 rt (rd ++ 0#11))) 0 0

/-- Each jump completes with its target and is counted (45_jform.md rules R341 to R344; 47_scanner.md rule
R368). -/
def Obligations.JumpsComplete : Prop :=
  ∀ (s : State) (target : BitVec 26),
    RunsAs (.j target) s (resultJump .j (jWord 2 target) s.programCounter target) 1 0 ∧
    RunsAs (.jal target) s (resultJump .jal (jWord 3 target) s.programCounter target) 1 0

/-- Whatever the instruction, only the record stream, the program counter, the offset and the two counters can
move (00_scope.md rule R6; 47_scanner.md rules R363 and R365). -/
def Obligations.InstructionFrame : Prop :=
  ∀ (i : Instr) (s t : State), exec i s = .next t →
    (∃ r, t.records = s.records ++ [r] ∧ r.programCounter = s.programCounter ∧ r.offset = s.offset ∧
      r.word = encode i ∧ r.insn.w = encode i) ∧
    t.programCounter = s.programCounter + 4 ∧ t.offset = s.offset + 4 ∧
    t.fsm = s.fsm ∧ t.boundaryValid = s.boundaryValid ∧ t.boundaryOffset = s.boundaryOffset ∧
    t.binaryStart = s.binaryStart ∧ t.freeIndex = s.freeIndex ∧ SameInputs s t

/-- Which instructions move which counter: jumps the one, the unconditional branch the other, and nothing else
(47_scanner.md rules R368 and R369; 10_state.md rules R24 and R25). -/
def Obligations.CountersMoveExactly : Prop :=
  ∀ (i : Instr) (s t : State), exec i s = .next t →
    ((∃ target, i = .j target ∨ i = .jal target) → t.jumpCount = s.jumpCount + 1) ∧
    ((¬ ∃ target, i = .j target ∨ i = .jal target) → t.jumpCount = s.jumpCount) ∧
    ((∃ imm, i = .beq 0 0 imm) → t.branchCount = s.branchCount + 1) ∧
    ((¬ ∃ imm, i = .beq 0 0 imm) → t.branchCount = s.branchCount)

/-! ### Names and text -/

/-- Every index has a register name, 29 is $sp and 31 is $ra; no lookup fails (40_name_tables.md rules R120 to
R124). -/
def Obligations.RegisterNamesTotal : Prop :=
  generalRegisterNames.length = 32 ∧ generalRegisterNames.Nodup ∧
  generalRegisterName 29 = "$sp" ∧ generalRegisterName 31 = "$ra" ∧
  ((List.range 32).map (fun n => floatRegisterName (BitVec.ofNat 5 n))).Nodup ∧
  conditionNames.length = 16 ∧ conditionNames.Nodup ∧
  ∀ (id : Nat) (sel : BitVec 2), (copBranchName id sel).isSome = decide (id < 3)

/-- An address is printed as exactly eight hexadecimal digits that say its value (48_text_output.md rules R391
and R392 (the case is an open parameter)). -/
def Obligations.HexEightDigits : Prop :=
  ∀ v : Word32, (hex8 .lower v).length = 8 ∧
    (∀ c ∈ (hex8 .lower v).toList, c ∈ "0123456789abcdef".toList) ∧
    (hex8 .lower v).toList.foldl (fun n c => 16 * n + "0123456789abcdef".toList.idxOf c) 0 = v.toNat

/-- The operand list that the table entry of an accepted word carries is the operand list of its mnemonic
(48_text_output.md rule R398 (the orders are decision D22); 41_rform.md rule R140; 42_iform.md rules R210, R215 and
R216; 43_iform_regimm.md rule R260). -/
def Obligations.OperandListsAgree : Prop :=
  ∀ (w pc : Word32) (insn : Insn), tDefault.decode w pc = .accepted insn →
    tDefault.operandsOf insn = operandsOf insn.mn
end

