-- ==== Sys2Proof/Laws/Encoding.lean ====
section
/-! SUPPORT. The field lemmas of the encoder's words (`30_encoding.md` R82 to R85): what each field accessor reads
from a word built from its fields, and that each view gives a word back. Later proofs cite these and never
unfold a field. -/

namespace Sys2Proof

/-! ### Reading a field of an R-view word -/

@[simp] theorem opcodeOf_rWord (op : BitVec 6) (rs rt rd shamt : BitVec 5) (funct : BitVec 6) :
    opcodeOf (rWord op rs rt rd shamt funct) = op := by
  simp only [opcodeOf, rWord]
  ext i hi
  simp only [BitVec.getElem_extractLsb', BitVec.getLsbD_append]
  repeat' rw [if_neg (by omega)]
  all_goals ((try rw [BitVec.getLsbD_eq_getElem (by omega)]); (congr 1; omega))

@[simp] theorem rsOf_rWord (op : BitVec 6) (rs rt rd shamt : BitVec 5) (funct : BitVec 6) :
    rsOf (rWord op rs rt rd shamt funct) = rs := by
  simp only [rsOf, rWord]
  ext i hi
  simp only [BitVec.getElem_extractLsb', BitVec.getLsbD_append]
  repeat' (first | rw [if_neg (by omega)] | rw [if_pos (by omega)])
  all_goals ((try rw [BitVec.getLsbD_eq_getElem (by omega)]); first | rfl | (congr 1; omega))

@[simp] theorem rtOf_rWord (op : BitVec 6) (rs rt rd shamt : BitVec 5) (funct : BitVec 6) :
    rtOf (rWord op rs rt rd shamt funct) = rt := by
  simp only [rtOf, rWord]
  ext i hi
  simp only [BitVec.getElem_extractLsb', BitVec.getLsbD_append]
  repeat' (first | rw [if_neg (by omega)] | rw [if_pos (by omega)])
  all_goals ((try rw [BitVec.getLsbD_eq_getElem (by omega)]); first | rfl | (congr 1; omega))

@[simp] theorem rdOf_rWord (op : BitVec 6) (rs rt rd shamt : BitVec 5) (funct : BitVec 6) :
    rdOf (rWord op rs rt rd shamt funct) = rd := by
  simp only [rdOf, rWord]
  ext i hi
  simp only [BitVec.getElem_extractLsb', BitVec.getLsbD_append]
  repeat' (first | rw [if_neg (by omega)] | rw [if_pos (by omega)])
  all_goals ((try rw [BitVec.getLsbD_eq_getElem (by omega)]); first | rfl | (congr 1; omega))

@[simp] theorem shamtOf_rWord (op : BitVec 6) (rs rt rd shamt : BitVec 5) (funct : BitVec 6) :
    shamtOf (rWord op rs rt rd shamt funct) = shamt := by
  simp only [shamtOf, rWord]
  ext i hi
  simp only [BitVec.getElem_extractLsb', BitVec.getLsbD_append]
  repeat' (first | rw [if_neg (by omega)] | rw [if_pos (by omega)])
  all_goals ((try rw [BitVec.getLsbD_eq_getElem (by omega)]); first | rfl | (congr 1; omega))

@[simp] theorem functOf_rWord (op : BitVec 6) (rs rt rd shamt : BitVec 5) (funct : BitVec 6) :
    functOf (rWord op rs rt rd shamt funct) = funct := by
  simp only [functOf, rWord]
  ext i hi
  simp only [BitVec.getElem_extractLsb', BitVec.getLsbD_append]
  repeat' (first | rw [if_neg (by omega)] | rw [if_pos (by omega)])
  all_goals ((try rw [BitVec.getLsbD_eq_getElem (by omega)]); first | rfl | (congr 1; omega))


/-! ### Reading a field of an I-view word -/

@[simp] theorem opcodeOf_iWord (op : BitVec 6) (rs rt : BitVec 5) (imm : BitVec 16) :
    opcodeOf (iWord op rs rt imm) = op := by
  simp only [opcodeOf, iWord]
  ext i hi
  simp only [BitVec.getElem_extractLsb', BitVec.getLsbD_append]
  repeat' rw [if_neg (by omega)]
  all_goals ((try rw [BitVec.getLsbD_eq_getElem (by omega)]); (congr 1; omega))

@[simp] theorem rsOf_iWord (op : BitVec 6) (rs rt : BitVec 5) (imm : BitVec 16) :
    rsOf (iWord op rs rt imm) = rs := by
  simp only [rsOf, iWord]
  ext i hi
  simp only [BitVec.getElem_extractLsb', BitVec.getLsbD_append]
  repeat' (first | rw [if_neg (by omega)] | rw [if_pos (by omega)])
  all_goals ((try rw [BitVec.getLsbD_eq_getElem (by omega)]); first | rfl | (congr 1; omega))

@[simp] theorem rtOf_iWord (op : BitVec 6) (rs rt : BitVec 5) (imm : BitVec 16) :
    rtOf (iWord op rs rt imm) = rt := by
  simp only [rtOf, iWord]
  ext i hi
  simp only [BitVec.getElem_extractLsb', BitVec.getLsbD_append]
  repeat' (first | rw [if_neg (by omega)] | rw [if_pos (by omega)])
  all_goals ((try rw [BitVec.getLsbD_eq_getElem (by omega)]); first | rfl | (congr 1; omega))

@[simp] theorem immOf_iWord (op : BitVec 6) (rs rt : BitVec 5) (imm : BitVec 16) :
    immOf (iWord op rs rt imm) = imm := by
  simp only [immOf, iWord]
  ext i hi
  simp only [BitVec.getElem_extractLsb', BitVec.getLsbD_append]
  repeat' (first | rw [if_neg (by omega)] | rw [if_pos (by omega)])
  all_goals ((try rw [BitVec.getLsbD_eq_getElem (by omega)]); first | rfl | (congr 1; omega))


/-! ### Reading a field of a J-view word -/

@[simp] theorem opcodeOf_jWord (op : BitVec 6) (target : BitVec 26) :
    opcodeOf (jWord op target) = op := by
  simp only [opcodeOf, jWord]
  ext i hi
  simp only [BitVec.getElem_extractLsb', BitVec.getLsbD_append]
  repeat' rw [if_neg (by omega)]
  all_goals ((try rw [BitVec.getLsbD_eq_getElem (by omega)]); (congr 1; omega))

@[simp] theorem targetOf_jWord (op : BitVec 6) (target : BitVec 26) :
    targetOf (jWord op target) = target := by
  simp only [targetOf, jWord]
  ext i hi
  simp only [BitVec.getElem_extractLsb', BitVec.getLsbD_append]
  repeat' (first | rw [if_neg (by omega)] | rw [if_pos (by omega)])
  all_goals ((try rw [BitVec.getLsbD_eq_getElem (by omega)]); first | rfl | (congr 1; omega))


/-! ### Reading the windows of the coprocessor words -/

/-- The gate bit is the top bit of `rs` (R282). -/
theorem floatGateOf_eq (w : Word32) : floatGateOf w = (rsOf w).getLsbD 4 := by
  simp [floatGateOf, rsOf]

@[simp] theorem opcodeOf_copBranchWord (op : BitVec 6) (x : BitVec 3) (sel : BitVec 2) (imm : BitVec 16) :
    opcodeOf (copBranchWord op x sel imm) = op := by
  simp [copBranchWord]

@[simp] theorem rsOf_copBranchWord (op : BitVec 6) (x : BitVec 3) (sel : BitVec 2) (imm : BitVec 16) :
    rsOf (copBranchWord op x sel imm) = 8#5 := by
  simp [copBranchWord]

@[simp] theorem immOf_copBranchWord (op : BitVec 6) (x : BitVec 3) (sel : BitVec 2) (imm : BitVec 16) :
    immOf (copBranchWord op x sel imm) = imm := by
  simp [copBranchWord]

@[simp] theorem branchSelectOf_copBranchWord (op : BitVec 6) (x : BitVec 3) (sel : BitVec 2) (imm : BitVec 16) :
    branchSelectOf (copBranchWord op x sel imm) = sel := by
  simp only [branchSelectOf, copBranchWord, iWord]
  ext i hi
  simp only [BitVec.getElem_extractLsb', BitVec.getLsbD_append]
  repeat' (first | rw [if_neg (by omega)] | rw [if_pos (by omega)])
  all_goals ((try rw [BitVec.getLsbD_eq_getElem (by omega)]); first | rfl | (congr 1; omega))

@[simp] theorem branchUntestedOf_copBranchWord (op : BitVec 6) (x : BitVec 3) (sel : BitVec 2) (imm : BitVec 16) :
    branchUntestedOf (copBranchWord op x sel imm) = x := by
  simp only [branchUntestedOf, copBranchWord, iWord]
  ext i hi
  simp only [BitVec.getElem_extractLsb', BitVec.getLsbD_append]
  repeat' (first | rw [if_neg (by omega)] | rw [if_pos (by omega)])
  all_goals ((try rw [BitVec.getLsbD_eq_getElem (by omega)]); first | rfl | (congr 1; omega))

@[simp] theorem opcodeOf_floatWord (m : BitVec 4) (ft fs fd : BitVec 5) (funct : BitVec 6) :
    opcodeOf (floatWord m ft fs fd funct) = 17#6 := by
  simp [floatWord]

@[simp] theorem rsOf_floatWord (m : BitVec 4) (ft fs fd : BitVec 5) (funct : BitVec 6) :
    rsOf (floatWord m ft fs fd funct) = 1#1 ++ m := by
  simp [floatWord]

@[simp] theorem rtOf_floatWord (m : BitVec 4) (ft fs fd : BitVec 5) (funct : BitVec 6) :
    rtOf (floatWord m ft fs fd funct) = ft := by
  simp [floatWord]

@[simp] theorem rdOf_floatWord (m : BitVec 4) (ft fs fd : BitVec 5) (funct : BitVec 6) :
    rdOf (floatWord m ft fs fd funct) = fs := by
  simp [floatWord]

@[simp] theorem shamtOf_floatWord (m : BitVec 4) (ft fs fd : BitVec 5) (funct : BitVec 6) :
    shamtOf (floatWord m ft fs fd funct) = fd := by
  simp [floatWord]

@[simp] theorem functOf_floatWord (m : BitVec 4) (ft fs fd : BitVec 5) (funct : BitVec 6) :
    functOf (floatWord m ft fs fd funct) = funct := by
  simp [floatWord]

@[simp] theorem formatLowOf_floatWord (m : BitVec 4) (ft fs fd : BitVec 5) (funct : BitVec 6) :
    formatLowOf (floatWord m ft fs fd funct) = m := by
  simp only [formatLowOf, floatWord, rWord]
  ext i hi
  simp only [BitVec.getElem_extractLsb', BitVec.getLsbD_append]
  repeat' (first | rw [if_neg (by omega)] | rw [if_pos (by omega)])
  all_goals ((try rw [BitVec.getLsbD_eq_getElem (by omega)]); first | rfl | (congr 1; omega))

@[simp] theorem floatGateOf_floatWord (m : BitVec 4) (ft fs fd : BitVec 5) (funct : BitVec 6) :
    floatGateOf (floatWord m ft fs fd funct) = true := by
  rw [floatGateOf_eq, rsOf_floatWord, BitVec.getLsbD_append]
  simp

@[simp] theorem opcodeOf_compareWord (m : BitVec 4) (ft fs : BitVec 5) (x : BitVec 3) (cond : BitVec 4) :
    opcodeOf (compareWord m ft fs x cond) = 17#6 := by
  simp [compareWord]

@[simp] theorem rsOf_compareWord (m : BitVec 4) (ft fs : BitVec 5) (x : BitVec 3) (cond : BitVec 4) :
    rsOf (compareWord m ft fs x cond) = 1#1 ++ m := by
  simp [compareWord]

@[simp] theorem rtOf_compareWord (m : BitVec 4) (ft fs : BitVec 5) (x : BitVec 3) (cond : BitVec 4) :
    rtOf (compareWord m ft fs x cond) = ft := by
  simp [compareWord]

@[simp] theorem rdOf_compareWord (m : BitVec 4) (ft fs : BitVec 5) (x : BitVec 3) (cond : BitVec 4) :
    rdOf (compareWord m ft fs x cond) = fs := by
  simp only [rdOf, compareWord, iWord]
  ext i hi
  simp only [BitVec.getElem_extractLsb', BitVec.getLsbD_append]
  repeat' (first | rw [if_neg (by omega)] | rw [if_pos (by omega)])
  all_goals ((try rw [BitVec.getLsbD_eq_getElem (by omega)]); first | rfl | (congr 1; omega))

@[simp] theorem formatLowOf_compareWord (m : BitVec 4) (ft fs : BitVec 5) (x : BitVec 3) (cond : BitVec 4) :
    formatLowOf (compareWord m ft fs x cond) = m := by
  simp only [formatLowOf, compareWord, iWord]
  ext i hi
  simp only [BitVec.getElem_extractLsb', BitVec.getLsbD_append]
  repeat' (first | rw [if_neg (by omega)] | rw [if_pos (by omega)])
  all_goals ((try rw [BitVec.getLsbD_eq_getElem (by omega)]); first | rfl | (congr 1; omega))

@[simp] theorem compareUntestedOf_compareWord (m : BitVec 4) (ft fs : BitVec 5) (x : BitVec 3) (cond : BitVec 4) :
    compareUntestedOf (compareWord m ft fs x cond) = x := by
  simp only [compareUntestedOf, compareWord, iWord]
  ext i hi
  simp only [BitVec.getElem_extractLsb', BitVec.getLsbD_append]
  repeat' (first | rw [if_neg (by omega)] | rw [if_pos (by omega)])
  all_goals ((try rw [BitVec.getLsbD_eq_getElem (by omega)]); first | rfl | (congr 1; omega))

@[simp] theorem condOf_compareWord (m : BitVec 4) (ft fs : BitVec 5) (x : BitVec 3) (cond : BitVec 4) :
    condOf (compareWord m ft fs x cond) = cond := by
  simp only [condOf, compareWord, iWord]
  ext i hi
  simp only [BitVec.getElem_extractLsb', BitVec.getLsbD_append]
  repeat' (first | rw [if_neg (by omega)] | rw [if_pos (by omega)])
  all_goals ((try rw [BitVec.getLsbD_eq_getElem (by omega)]); first | rfl | (congr 1; omega))

@[simp] theorem compareWindowOf_compareWord (m : BitVec 4) (ft fs : BitVec 5) (x : BitVec 3) (cond : BitVec 4) :
    compareWindowOf (compareWord m ft fs x cond) = 3#4 := by
  simp only [compareWindowOf, compareWord, iWord]
  ext i hi
  simp only [BitVec.getElem_extractLsb', BitVec.getLsbD_append]
  repeat' (first | rw [if_neg (by omega)] | rw [if_pos (by omega)])
  all_goals ((try rw [BitVec.getLsbD_eq_getElem (by omega)]); first | rfl | (congr 1; omega))

@[simp] theorem functOf_compareWord (m : BitVec 4) (ft fs : BitVec 5) (x : BitVec 3) (cond : BitVec 4) :
    functOf (compareWord m ft fs x cond) = 3#2 ++ cond := by
  simp only [functOf, compareWord, iWord]
  apply BitVec.eq_of_getLsbD_eq
  intro i hi
  simp only [BitVec.getLsbD_extractLsb', BitVec.getLsbD_append, hi, decide_true, Bool.true_and, Nat.zero_add]
  by_cases h : i < 4
  · simp only [h, if_true]
    rw [if_pos (by omega)]
  · obtain rfl | rfl : i = 4 ∨ i = 5 := by omega
    · rfl
    · rfl

@[simp] theorem floatGateOf_compareWord (m : BitVec 4) (ft fs : BitVec 5) (x : BitVec 3) (cond : BitVec 4) :
    floatGateOf (compareWord m ft fs x cond) = true := by
  rw [floatGateOf_eq, rsOf_compareWord, BitVec.getLsbD_append]
  simp

@[simp] theorem opcodeOf_copMoveWord (op : BitVec 6) (rs rt rd : BitVec 5) :
    opcodeOf (copMoveWord op rs rt rd) = op := by
  simp [copMoveWord]

@[simp] theorem rsOf_copMoveWord (op : BitVec 6) (rs rt rd : BitVec 5) :
    rsOf (copMoveWord op rs rt rd) = rs := by
  simp [copMoveWord]

@[simp] theorem rtOf_copMoveWord (op : BitVec 6) (rs rt rd : BitVec 5) :
    rtOf (copMoveWord op rs rt rd) = rt := by
  simp [copMoveWord]

@[simp] theorem rdOf_copMoveWord (op : BitVec 6) (rs rt rd : BitVec 5) :
    rdOf (copMoveWord op rs rt rd) = rd := by
  simp only [rdOf, copMoveWord, iWord]
  ext i hi
  simp only [BitVec.getElem_extractLsb', BitVec.getLsbD_append]
  repeat' (first | rw [if_neg (by omega)] | rw [if_pos (by omega)])
  all_goals ((try rw [BitVec.getLsbD_eq_getElem (by omega)]); first | rfl | (congr 1; omega))

@[simp] theorem immLow11Of_copMoveWord (op : BitVec 6) (rs rt rd : BitVec 5) :
    immLow11Of (copMoveWord op rs rt rd) = 0#11 := by
  simp only [immLow11Of, copMoveWord, iWord]
  ext i hi
  simp only [BitVec.getElem_extractLsb', BitVec.getLsbD_append]
  repeat' (first | rw [if_neg (by omega)] | rw [if_pos (by omega)])
  all_goals ((try rw [BitVec.getLsbD_eq_getElem (by omega)]); first | rfl | (congr 1; omega))


/-! ### Reading the code bits -/

@[simp] theorem functOf_codeWord (op : BitVec 6) (code : BitVec 20) (funct : BitVec 6) :
    functOf (jWord op (code ++ funct)) = funct := by
  simp only [functOf, jWord]
  ext i hi
  simp only [BitVec.getElem_extractLsb', BitVec.getLsbD_append]
  repeat' (first | rw [if_neg (by omega)] | rw [if_pos (by omega)])
  all_goals ((try rw [BitVec.getLsbD_eq_getElem (by omega)]); first | rfl | (congr 1; omega))

@[simp] theorem codeBitsOf_codeWord (op : BitVec 6) (code : BitVec 20) (funct : BitVec 6) :
    codeBitsOf (jWord op (code ++ funct)) = code := by
  simp only [codeBitsOf, jWord]
  ext i hi
  simp only [BitVec.getElem_extractLsb', BitVec.getLsbD_append]
  repeat' (first | rw [if_neg (by omega)] | rw [if_pos (by omega)])
  all_goals ((try rw [BitVec.getLsbD_eq_getElem (by omega)]); first | rfl | (congr 1; omega))

@[simp] theorem functOf_trapWord (op : BitVec 6) (rs rt : BitVec 5) (code : BitVec 10) (funct : BitVec 6) :
    functOf (iWord op rs rt (code ++ funct)) = funct := by
  simp only [functOf, iWord]
  ext i hi
  simp only [BitVec.getElem_extractLsb', BitVec.getLsbD_append]
  repeat' (first | rw [if_neg (by omega)] | rw [if_pos (by omega)])
  all_goals ((try rw [BitVec.getLsbD_eq_getElem (by omega)]); first | rfl | (congr 1; omega))

@[simp] theorem trapCodeOf_trapWord (op : BitVec 6) (rs rt : BitVec 5) (code : BitVec 10) (funct : BitVec 6) :
    trapCodeOf (iWord op rs rt (code ++ funct)) = code := by
  simp only [trapCodeOf, iWord]
  ext i hi
  simp only [BitVec.getElem_extractLsb', BitVec.getLsbD_append]
  repeat' (first | rw [if_neg (by omega)] | rw [if_pos (by omega)])
  all_goals ((try rw [BitVec.getLsbD_eq_getElem (by omega)]); first | rfl | (congr 1; omega))


/-! ### A word is its view -/

theorem rWord_view (w : Word32) :
    rWord (opcodeOf w) (rsOf w) (rtOf w) (rdOf w) (shamtOf w) (functOf w) = w := by
  simp only [opcodeOf, rsOf, rtOf, rdOf, shamtOf, functOf, rWord]
  apply BitVec.eq_of_getLsbD_eq
  intro i hi
  simp only [BitVec.getLsbD_append, BitVec.getLsbD_extractLsb']
  split_ifs <;> (rw [decide_eq_true (by omega), Bool.true_and]; congr 1; omega)

theorem iWord_view (w : Word32) :
    iWord (opcodeOf w) (rsOf w) (rtOf w) (immOf w) = w := by
  simp only [opcodeOf, rsOf, rtOf, immOf, iWord]
  apply BitVec.eq_of_getLsbD_eq
  intro i hi
  simp only [BitVec.getLsbD_append, BitVec.getLsbD_extractLsb']
  split_ifs <;> (rw [decide_eq_true (by omega), Bool.true_and]; congr 1; omega)

theorem jWord_view (w : Word32) :
    jWord (opcodeOf w) (targetOf w) = w := by
  simp only [opcodeOf, targetOf, jWord]
  apply BitVec.eq_of_getLsbD_eq
  intro i hi
  simp only [BitVec.getLsbD_append, BitVec.getLsbD_extractLsb']
  split_ifs <;> (rw [decide_eq_true (by omega), Bool.true_and]; congr 1; omega)

theorem codeWord_view (w : Word32) :
    jWord (opcodeOf w) (codeBitsOf w ++ functOf w) = w := by
  simp only [opcodeOf, codeBitsOf, functOf, jWord]
  apply BitVec.eq_of_getLsbD_eq
  intro i hi
  simp only [BitVec.getLsbD_append, BitVec.getLsbD_extractLsb']
  split_ifs <;> (rw [decide_eq_true (by omega), Bool.true_and]; congr 1; omega)

theorem trapWord_view (w : Word32) :
    iWord (opcodeOf w) (rsOf w) (rtOf w) (trapCodeOf w ++ functOf w) = w := by
  simp only [opcodeOf, rsOf, rtOf, trapCodeOf, functOf, iWord]
  apply BitVec.eq_of_getLsbD_eq
  intro i hi
  simp only [BitVec.getLsbD_append, BitVec.getLsbD_extractLsb']
  split_ifs <;> (rw [decide_eq_true (by omega), Bool.true_and]; congr 1; omega)

theorem copBranchWord_view (w : Word32) :
    iWord (opcodeOf w) (rsOf w) (branchUntestedOf w ++ branchSelectOf w) (immOf w) = w := by
  simp only [opcodeOf, rsOf, branchUntestedOf, branchSelectOf, immOf, iWord]
  apply BitVec.eq_of_getLsbD_eq
  intro i hi
  simp only [BitVec.getLsbD_append, BitVec.getLsbD_extractLsb']
  split_ifs <;> (rw [decide_eq_true (by omega), Bool.true_and]; congr 1; omega)

theorem compareWord_view (w : Word32) :
    iWord (opcodeOf w) (rsOf w) (rtOf w)
      (rdOf w ++ compareUntestedOf w ++ compareWindowOf w ++ condOf w) = w := by
  simp only [opcodeOf, rsOf, rtOf, rdOf, compareUntestedOf, compareWindowOf, condOf, iWord]
  apply BitVec.eq_of_getLsbD_eq
  intro i hi
  simp only [BitVec.getLsbD_append, BitVec.getLsbD_extractLsb']
  split_ifs <;> (rw [decide_eq_true (by omega), Bool.true_and]; congr 1; omega)

theorem copMoveWord_view (w : Word32) :
    iWord (opcodeOf w) (rsOf w) (rtOf w) (rdOf w ++ immLow11Of w) = w := by
  simp only [opcodeOf, rsOf, rtOf, rdOf, immLow11Of, iWord]
  apply BitVec.eq_of_getLsbD_eq
  intro i hi
  simp only [BitVec.getLsbD_append, BitVec.getLsbD_extractLsb']
  split_ifs <;> (rw [decide_eq_true (by omega), Bool.true_and]; congr 1; omega)

/-- Behind the gate, `rs` is a one and the low four bits of the tag (R282, R285). -/
theorem rsOf_of_gate (w : Word32) (h : floatGateOf w = true) : rsOf w = 1#1 ++ formatLowOf w := by
  rw [floatGateOf_eq] at h
  ext i hi
  rw [BitVec.getElem_append]
  split
  · simp only [rsOf, formatLowOf, BitVec.getElem_extractLsb']
  · obtain rfl : i = 4 := by omega
    rw [← BitVec.getLsbD_eq_getElem, h]
    simp

end Sys2Proof
end

