-- ==== Sys2Proof/Laws/Memory.lean ====
section
/-! SUPPORT. The laws of the image's byte list: a read after a write, the canonical form, and when a word can be
read. -/

namespace Sys2Proof.Machine

/-! ### The canonical form -/

theorem Memory.wfFrom_mono {low low' : Nat} (h : low ≤ low') :
    ∀ {mem : List Host.Cell}, Memory.wfFrom low' mem = true → Memory.wfFrom low mem = true
  | [], _ => rfl
  | (a, b) :: rest, hw => by
    simp only [Memory.wfFrom, Bool.and_eq_true, decide_eq_true_eq] at hw ⊢
    exact ⟨⟨by omega, hw.1.2⟩, hw.2⟩

/-- Below the lowest address of a canonical list, every byte is unlisted. -/
theorem Memory.readByte_below {low addr : Nat} (h : addr < low) :
    ∀ {mem : List Host.Cell}, Memory.wfFrom low mem = true → Memory.readByte mem addr = Memory.unlisted
  | [], _ => rfl
  | (a, b) :: rest, hw => by
    simp only [Memory.wfFrom, Bool.and_eq_true, decide_eq_true_eq] at hw
    rw [Memory.readByte, if_neg (by omega)]
    exact Memory.readByte_below (low := a + 1) (by omega) hw.2

theorem Memory.wfFrom_writeByte {addr low : Nat} (b : Byte) (h : low ≤ addr) :
    ∀ {mem : List Host.Cell}, Memory.wfFrom low mem = true →
      Memory.wfFrom low (Memory.writeByte mem addr b) = true
  | [], _ => by
    unfold Memory.writeByte
    split
    · rfl
    · simp_all [Memory.wfFrom]
  | (a, c) :: rest, hw => by
    have hw' := hw
    simp only [Memory.wfFrom, Bool.and_eq_true, decide_eq_true_eq] at hw
    unfold Memory.writeByte
    split
    · split
      · exact hw'
      · simp_all [Memory.wfFrom]
    · split
      · subst_vars
        split
        · exact Memory.wfFrom_mono (by omega) hw.2
        · simp_all [Memory.wfFrom]
      · simp only [Memory.wfFrom, Bool.and_eq_true, decide_eq_true_eq]
        exact ⟨hw.1, Memory.wfFrom_writeByte b (by omega) hw.2⟩

/-- Writing one byte keeps the canonical form. -/
theorem Memory.wf_writeByte {mem : List Host.Cell} (addr : Nat) (b : Byte) (h : Memory.wf mem = true) :
    Memory.wf (Memory.writeByte mem addr b) = true :=
  Memory.wfFrom_writeByte b (Nat.zero_le _) h

/-- Writing consecutive bytes keeps the canonical form. -/
theorem Memory.wf_writeBytes (bytes : List Byte) : ∀ {mem : List Host.Cell} (addr : Nat),
    Memory.wf mem = true → Memory.wf (Memory.writeBytes mem addr bytes) = true := by
  induction bytes with
  | nil => intro mem addr h; exact h
  | cons b bs ih => intro mem addr h; exact ih (addr + 1) (Memory.wf_writeByte addr b h)

theorem Memory.wfFrom_ofBytesFrom (bytes : List Byte) :
    ∀ addr low, low ≤ addr → Memory.wfFrom low (Memory.ofBytesFrom addr bytes) = true := by
  induction bytes with
  | nil => intro addr low _; rfl
  | cons b bs ih =>
    intro addr low h
    unfold Memory.ofBytesFrom
    split
    · exact ih (addr + 1) low (by omega)
    · rename_i hb
      simp only [Memory.wfFrom, Bool.and_eq_true, decide_eq_true_eq, bne_iff_ne]
      exact ⟨⟨h, hb⟩, ih (addr + 1) (addr + 1) (Nat.le_refl _)⟩

/-- The image of a byte list is in canonical form. -/
theorem Memory.wf_ofBytes (bytes : List Byte) : Memory.wf (Memory.ofBytes bytes) = true :=
  Memory.wfFrom_ofBytesFrom bytes 0 0 (Nat.le_refl _)

/-- The image after reset is in canonical form. -/
theorem Memory.wf_reset : Memory.wf State.reset.image = true := rfl

/-- Placing a word to be fetched keeps the canonical form. -/
theorem Memory.wf_placed {mem : List Host.Cell} (h : Memory.wf mem = true) (addr : Nat) (order : ByteOrder)
    (w : Word32) : Memory.wf (Memory.writeBytes mem addr (wordBytes order w)) = true :=
  Memory.wf_writeBytes _ _ h

/-! ### Reading after writing -/

theorem Memory.readByte_writeByte_from {addr low : Nat} (b : Byte) (x : Nat) :
    ∀ {mem : List Host.Cell}, Memory.wfFrom low mem = true →
      Memory.readByte (Memory.writeByte mem addr b) x = if x = addr then b else Memory.readByte mem x
  | [], _ => by
    unfold Memory.writeByte
    split <;> simp_all [Memory.readByte]
  | (a, c) :: rest, hw => by
    simp only [Memory.wfFrom, Bool.and_eq_true, decide_eq_true_eq] at hw
    unfold Memory.writeByte
    split
    · rename_i hlt
      split
      · rename_i hb
        by_cases hx : x = addr
        · subst hx
          rw [if_pos rfl, hb, Memory.readByte, if_neg (by omega)]
          exact Memory.readByte_below (low := a + 1) (by omega) hw.2
        · rw [if_neg hx]
      · rw [Memory.readByte]
    · split
      · subst_vars
        split
        · rename_i hb
          by_cases hx : x = a
          · rw [if_pos hx, hb]
            exact Memory.readByte_below (low := a + 1) (by omega) hw.2
          · rw [if_neg hx, Memory.readByte, if_neg hx]
        · rw [Memory.readByte, Memory.readByte]
          split <;> rfl
      · rename_i hne
        rw [Memory.readByte, Memory.readByte, Memory.readByte_writeByte_from b x hw.2]
        by_cases hx : x = a
        · rw [if_pos hx, if_pos hx, if_neg (by omega)]
        · rw [if_neg hx, if_neg hx]

/-- A read after a write of one byte. -/
theorem Memory.readByte_writeByte {mem : List Host.Cell} (h : Memory.wf mem = true) (addr x : Nat) (b : Byte) :
    Memory.readByte (Memory.writeByte mem addr b) x = if x = addr then b else Memory.readByte mem x :=
  Memory.readByte_writeByte_from b x h

/-- A read after a write of consecutive bytes: inside them the written byte, outside them the byte before. -/
theorem Memory.readByte_writeBytes (bytes : List Byte) :
    ∀ {mem : List Host.Cell} (_ : Memory.wf mem = true) (addr x : Nat),
      Memory.readByte (Memory.writeBytes mem addr bytes) x =
        if addr ≤ x ∧ x < addr + bytes.length then bytes.getD (x - addr) Memory.unlisted
        else Memory.readByte mem x := by
  induction bytes with
  | nil =>
    intro mem h addr x
    rw [if_neg (by simp only [List.length_nil]; omega)]
    rfl
  | cons b bs ih =>
    intro mem h addr x
    rw [Memory.writeBytes, ih (Memory.wf_writeByte addr b h), Memory.readByte_writeByte h]
    simp only [List.length_cons]
    by_cases hx : x = addr
    · subst hx
      rw [if_neg (by omega), if_pos rfl, if_pos (by omega)]
      simp
    · by_cases hin : addr + 1 ≤ x ∧ x < addr + 1 + bs.length
      · rw [if_pos hin, if_pos (by omega), show x - addr = (x - (addr + 1)) + 1 by omega]
        simp
      · rw [if_neg hin, if_neg hx, if_neg (by omega)]

theorem Memory.readByte_ofBytesFrom (bytes : List Byte) :
    ∀ addr x, Memory.readByte (Memory.ofBytesFrom addr bytes) x =
      if addr ≤ x then bytes.getD (x - addr) Memory.unlisted else Memory.unlisted := by
  induction bytes with
  | nil => intro addr x; split <;> rfl
  | cons b bs ih =>
    intro addr x
    unfold Memory.ofBytesFrom
    have hcons : ∀ h : addr + 1 ≤ x, (b :: bs).getD (x - addr) Memory.unlisted
        = bs.getD (x - (addr + 1)) Memory.unlisted := by
      intro h
      rw [show x - addr = (x - (addr + 1)) + 1 by omega]
      simp
    split
    · rename_i hb
      rw [ih]
      by_cases h1 : addr + 1 ≤ x
      · rw [if_pos h1, if_pos (by omega), hcons h1]
      · by_cases h2 : x = addr
        · subst h2; simp [hb]
        · rw [if_neg h1, if_neg (by omega)]
    · rw [Memory.readByte, ih]
      by_cases h1 : addr + 1 ≤ x
      · rw [if_neg (by omega), if_pos h1, if_pos (by omega), hcons h1]
      · by_cases h2 : x = addr
        · subst h2; simp
        · rw [if_neg h2, if_neg h1, if_neg (by omega)]

/-- A byte of the image of a byte list. -/
theorem Memory.readByte_ofBytes (bytes : List Byte) (x : Nat) :
    Memory.readByte (Memory.ofBytes bytes) x = bytes.getD x Memory.unlisted := by
  simp [Memory.ofBytes, Memory.readByte_ofBytesFrom]

/-! ### Reading a word -/

theorem endOfData_eq_true {s : State} {off : Nat} : endOfData s off = true ↔ off + 4 > s.imageSize.toNat := by
  simp [endOfData]

theorem endOfData_eq_false {s : State} {off : Nat} : endOfData s off = false ↔ off + 4 ≤ s.imageSize.toNat := by
  simp [endOfData]

/-- The image read answers nothing exactly where the end-of-data test holds (R56). -/
theorem imgRead32_eq_none {s : State} {off : Nat} : imgRead32 s off = none ↔ endOfData s off = true := by
  unfold imgRead32
  split <;> simp_all

/-- Every word the image read answers lies inside the image (R56), and is assembled from its four bytes. -/
theorem imgRead32_eq_some {s : State} {off : Nat} {w : Word32} :
    imgRead32 s off = some w ↔ off + 4 ≤ s.imageSize.toNat ∧
      w = assembleWord s.byteOrder (Memory.readByte s.image off) (Memory.readByte s.image (off + 1))
        (Memory.readByte s.image (off + 2)) (Memory.readByte s.image (off + 3)) := by
  unfold imgRead32
  split
  · rename_i h
    rw [endOfData_eq_true] at h
    simp only [reduceCtorEq, false_iff, not_and]
    omega
  · rename_i h
    rw [Bool.not_eq_true, endOfData_eq_false] at h
    simp only [Option.some.injEq, h, true_and]
    exact eq_comm

/-- Two states with the same image, size and byte order read the same words. -/
theorem imgRead32_congr {s t : State} (hi : t.image = s.image) (hz : t.imageSize = s.imageSize)
    (ho : t.byteOrder = s.byteOrder) (off : Nat) : imgRead32 t off = imgRead32 s off := by
  unfold imgRead32 endOfData
  rw [hi, hz, ho]

/-- The four bytes of a word, assembled again in the same order, are the word (R52). -/
theorem assembleWord_wordBytes (order : ByteOrder) (w : Word32) :
    ∀ b0 b1 b2 b3, wordBytes order w = [b0, b1, b2, b3] → assembleWord order b0 b1 b2 b3 = w := by
  intro b0 b1 b2 b3 h
  cases order <;>
    · simp only [wordBytes, List.cons.injEq, and_true] at h
      obtain ⟨rfl, rfl, rfl, rfl⟩ := h
      simp only [assembleWord]
      apply BitVec.eq_of_getLsbD_eq
      intro i hi
      simp only [BitVec.getLsbD_append, BitVec.getLsbD_extractLsb']
      split_ifs <;> (rw [decide_eq_true (by omega), Bool.true_and]; congr 1; omega)

end Sys2Proof.Machine
end

