-- ==== Sys2Proof/Laws/State.lean ====
section
/-! SUPPORT. One lemma per field for each update of the state, true by `rfl`: later proofs never unfold an update. -/

namespace Sys2Proof.Machine

/-! ### An accepted word -/

@[simp] theorem State.accepted_fsm (s : State) (insn : Insn) :
    (s.accepted insn).fsm = s.fsm := rfl

@[simp] theorem State.accepted_programCounter (s : State) (insn : Insn) :
    (s.accepted insn).programCounter = s.programCounter + 4#32 := rfl

@[simp] theorem State.accepted_offset (s : State) (insn : Insn) :
    (s.accepted insn).offset = s.offset + 4#32 := rfl

@[simp] theorem State.accepted_jumpCount (s : State) (insn : Insn) :
    (s.accepted insn).jumpCount = bumped (countsJump insn) s.jumpCount := rfl

@[simp] theorem State.accepted_branchCount (s : State) (insn : Insn) :
    (s.accepted insn).branchCount = bumped (countsBranch insn) s.branchCount := rfl

@[simp] theorem State.accepted_boundaryValid (s : State) (insn : Insn) :
    (s.accepted insn).boundaryValid = s.boundaryValid := rfl

@[simp] theorem State.accepted_boundaryOffset (s : State) (insn : Insn) :
    (s.accepted insn).boundaryOffset = s.boundaryOffset := rfl

@[simp] theorem State.accepted_binaryStart (s : State) (insn : Insn) :
    (s.accepted insn).binaryStart = s.binaryStart := rfl

@[simp] theorem State.accepted_entryAddress (s : State) (insn : Insn) :
    (s.accepted insn).entryAddress = s.entryAddress := rfl

@[simp] theorem State.accepted_scanStart (s : State) (insn : Insn) :
    (s.accepted insn).scanStart = s.scanStart := rfl

@[simp] theorem State.accepted_imageSize (s : State) (insn : Insn) :
    (s.accepted insn).imageSize = s.imageSize := rfl

@[simp] theorem State.accepted_byteOrder (s : State) (insn : Insn) :
    (s.accepted insn).byteOrder = s.byteOrder := rfl

@[simp] theorem State.accepted_image (s : State) (insn : Insn) :
    (s.accepted insn).image = s.image := rfl

@[simp] theorem State.accepted_records (s : State) (insn : Insn) :
    (s.accepted insn).records = s.records ++ [⟨s.programCounter, s.offset, insn.w, insn⟩] := rfl

@[simp] theorem State.accepted_freeIndex (s : State) (insn : Insn) :
    (s.accepted insn).freeIndex = s.freeIndex := rfl

/-! ### The transition into Halted -/

@[simp] theorem State.haltScan_fsm (s : State) :
    (s.haltScan).fsm = .halted := rfl

@[simp] theorem State.haltScan_programCounter (s : State) :
    (s.haltScan).programCounter = s.programCounter := rfl

@[simp] theorem State.haltScan_offset (s : State) :
    (s.haltScan).offset = s.offset := rfl

@[simp] theorem State.haltScan_jumpCount (s : State) :
    (s.haltScan).jumpCount = s.jumpCount := rfl

@[simp] theorem State.haltScan_branchCount (s : State) :
    (s.haltScan).branchCount = s.branchCount := rfl

@[simp] theorem State.haltScan_boundaryValid (s : State) :
    (s.haltScan).boundaryValid = true := rfl

@[simp] theorem State.haltScan_boundaryOffset (s : State) :
    (s.haltScan).boundaryOffset = haltBoundary s := rfl

@[simp] theorem State.haltScan_binaryStart (s : State) :
    (s.haltScan).binaryStart = s.offset := rfl

@[simp] theorem State.haltScan_entryAddress (s : State) :
    (s.haltScan).entryAddress = s.entryAddress := rfl

@[simp] theorem State.haltScan_scanStart (s : State) :
    (s.haltScan).scanStart = s.scanStart := rfl

@[simp] theorem State.haltScan_imageSize (s : State) :
    (s.haltScan).imageSize = s.imageSize := rfl

@[simp] theorem State.haltScan_byteOrder (s : State) :
    (s.haltScan).byteOrder = s.byteOrder := rfl

@[simp] theorem State.haltScan_image (s : State) :
    (s.haltScan).image = s.image := rfl

@[simp] theorem State.haltScan_records (s : State) :
    (s.haltScan).records = s.records := rfl

@[simp] theorem State.haltScan_freeIndex (s : State) :
    (s.haltScan).freeIndex = if boundaryOpen s then s.freeIndex + 1 else s.freeIndex := rfl

/-! ### A reset -/

@[simp] theorem State.startScan_fsm (s : State) :
    (s.startScan).fsm = .scanning := rfl

@[simp] theorem State.startScan_programCounter (s : State) :
    (s.startScan).programCounter = s.entryAddress := rfl

@[simp] theorem State.startScan_offset (s : State) :
    (s.startScan).offset = s.scanStart := rfl

@[simp] theorem State.startScan_jumpCount (s : State) :
    (s.startScan).jumpCount = 0#32 := rfl

@[simp] theorem State.startScan_branchCount (s : State) :
    (s.startScan).branchCount = 0#32 := rfl

@[simp] theorem State.startScan_boundaryValid (s : State) :
    (s.startScan).boundaryValid = false := rfl

@[simp] theorem State.startScan_boundaryOffset (s : State) :
    (s.startScan).boundaryOffset = 0#32 := rfl

@[simp] theorem State.startScan_binaryStart (s : State) :
    (s.startScan).binaryStart = 0#32 := rfl

@[simp] theorem State.startScan_entryAddress (s : State) :
    (s.startScan).entryAddress = s.entryAddress := rfl

@[simp] theorem State.startScan_scanStart (s : State) :
    (s.startScan).scanStart = s.scanStart := rfl

@[simp] theorem State.startScan_imageSize (s : State) :
    (s.startScan).imageSize = s.imageSize := rfl

@[simp] theorem State.startScan_byteOrder (s : State) :
    (s.startScan).byteOrder = s.byteOrder := rfl

@[simp] theorem State.startScan_image (s : State) :
    (s.startScan).image = s.image := rfl

@[simp] theorem State.startScan_records (s : State) :
    (s.startScan).records = [] := rfl

@[simp] theorem State.startScan_freeIndex (s : State) :
    (s.startScan).freeIndex = s.freeIndex := rfl

/-! ### A placed word -/

@[simp] theorem State.withFetchWord_fsm (s : State) (nbits w : Nat) :
    (s.withFetchWord nbits w).fsm = .scanning := rfl

@[simp] theorem State.withFetchWord_programCounter (s : State) (nbits w : Nat) :
    (s.withFetchWord nbits w).programCounter = s.programCounter := rfl

@[simp] theorem State.withFetchWord_offset (s : State) (nbits w : Nat) :
    (s.withFetchWord nbits w).offset = s.offset := rfl

@[simp] theorem State.withFetchWord_jumpCount (s : State) (nbits w : Nat) :
    (s.withFetchWord nbits w).jumpCount = s.jumpCount := rfl

@[simp] theorem State.withFetchWord_branchCount (s : State) (nbits w : Nat) :
    (s.withFetchWord nbits w).branchCount = s.branchCount := rfl

@[simp] theorem State.withFetchWord_boundaryValid (s : State) (nbits w : Nat) :
    (s.withFetchWord nbits w).boundaryValid = s.boundaryValid := rfl

@[simp] theorem State.withFetchWord_boundaryOffset (s : State) (nbits w : Nat) :
    (s.withFetchWord nbits w).boundaryOffset = s.boundaryOffset := rfl

@[simp] theorem State.withFetchWord_binaryStart (s : State) (nbits w : Nat) :
    (s.withFetchWord nbits w).binaryStart = s.binaryStart := rfl

@[simp] theorem State.withFetchWord_entryAddress (s : State) (nbits w : Nat) :
    (s.withFetchWord nbits w).entryAddress = s.entryAddress := rfl

@[simp] theorem State.withFetchWord_scanStart (s : State) (nbits w : Nat) :
    (s.withFetchWord nbits w).scanStart = s.scanStart := rfl

@[simp] theorem State.withFetchWord_imageSize (s : State) (nbits w : Nat) :
    (s.withFetchWord nbits w).imageSize = if s.imageSize.toNat < s.offset.toNat + 4 then BitVec.ofNat 32 (s.offset.toNat + 4) else s.imageSize := rfl

@[simp] theorem State.withFetchWord_byteOrder (s : State) (nbits w : Nat) :
    (s.withFetchWord nbits w).byteOrder = s.byteOrder := rfl

@[simp] theorem State.withFetchWord_image (s : State) (nbits w : Nat) :
    (s.withFetchWord nbits w).image = Memory.writeBytes s.image s.offset.toNat (wordBytes s.byteOrder (tableWord nbits w)) := rfl

@[simp] theorem State.withFetchWord_records (s : State) (nbits w : Nat) :
    (s.withFetchWord nbits w).records = s.records := rfl

@[simp] theorem State.withFetchWord_freeIndex (s : State) (nbits w : Nat) :
    (s.withFetchWord nbits w).freeIndex = s.freeIndex := rfl

/-! ### The counters -/

@[simp] theorem bumped_true (c : Word32) : bumped true c = c + 1#32 := rfl

@[simp] theorem bumped_false (c : Word32) : bumped false c = c := rfl

end Sys2Proof.Machine
end

