-- ==== Sys2Proof/Laws/Ops.lean ====
section
/-! SUPPORT. What each shared operation can do, said once: the four ways to accept a word, the transition into
Halted, and the three ways a step can go. Later proofs cite these and unfold no operation. -/

namespace Sys2Proof.Machine

/-- The same inputs, from the five fields that hold them. -/
theorem SameInputs.of_fields {s t : State} (h1 : t.entryAddress = s.entryAddress)
    (h2 : t.scanStart = s.scanStart) (h3 : t.imageSize = s.imageSize) (h4 : t.byteOrder = s.byteOrder)
    (h5 : t.image = s.image) : SameInputs s t :=
  ⟨h1, h2, h3, h4, h5, fun _ => by rw [h5]⟩

theorem SameInputs.refl (s : State) : SameInputs s s := SameInputs.of_fields rfl rfl rfl rfl rfl

theorem SameInputs.trans {s t u : State} (h : SameInputs s t) (h' : SameInputs t u) : SameInputs s u :=
  SameInputs.of_fields (h'.entryAddress.trans h.entryAddress) (h'.scanStart.trans h.scanStart)
    (h'.imageSize.trans h.imageSize) (h'.byteOrder.trans h.byteOrder) (h'.image.trans h.image)

theorem bumped_eq_add (mark : Bool) (c : Word32) : bumped mark c = c + (if mark then 1#32 else 0#32) := by
  cases mark <;> simp

/-- Everything the acceptance of a word does. -/
theorem acceptedStep_accepted (s : State) (insn : Insn) :
    AcceptedStep s (s.accepted insn) insn (if countsJump insn then 1#32 else 0#32)
      (if countsBranch insn then 1#32 else 0#32) where
  records := rfl
  programCounter := rfl
  offset := rfl
  jumpCount := bumped_eq_add _ _
  branchCount := bumped_eq_add _ _
  fsm := rfl
  boundaryValid := rfl
  boundaryOffset := rfl
  binaryStart := rfl
  freeIndex := rfl
  inputs := SameInputs.of_fields rfl rfl rfl rfl rfl

/-- An accepted R-form word: no counter moves (R148). -/
theorem acceptR_next {mn : Mnemonic} {via : Option Mnemonic} {w : Word32} {s t : State}
    (h : acceptR mn via w s = .next t) : AcceptedStep s t ⟨mn, .R, w, none, via, false⟩ 0#32 0#32 := by
  cases h
  exact acceptedStep_accepted s _

/-- An accepted I-form word that is no branch: no counter moves (R219). -/
theorem acceptI_next {mn : Mnemonic} {w : Word32} {s t : State} (h : acceptI mn w s = .next t) :
    AcceptedStep s t (resultI mn w) 0#32 0#32 := by
  cases h
  exact acceptedStep_accepted s _

/-- An accepted branch-class word: its target, and `branch_count` exactly under the mark (R212, R369). -/
theorem acceptBranch_next {mn : Mnemonic} {w : Word32} {imm : BitVec 16} {ubranch : Bool} {s t : State}
    (h : acceptBranch mn w imm ubranch s = .next t) :
    AcceptedStep s t ⟨mn, .I, w, some (branchTarget s.programCounter imm), none, ubranch⟩ 0#32
      (if ubranch then 1#32 else 0#32) := by
  cases h
  exact acceptedStep_accepted s _

/-- An accepted J-form word: its target, and `jump_count` (R341, R368). -/
theorem acceptJ_next {mn : Mnemonic} {w : Word32} {target : BitVec 26} {s t : State}
    (h : acceptJ mn w target s = .next t) :
    AcceptedStep s t (resultJump mn w s.programCounter target) 1#32 0#32 := by
  cases h
  exact acceptedStep_accepted s _

/-- `boundary_offset` on halting, where the failing word has a word before it (R366). -/
theorem haltBoundary_of_le {s : State} (h : 4 ≤ s.offset.toNat) : haltBoundary s = s.offset - 4#32 := by
  unfold haltBoundary boundaryOpen
  rw [if_neg]
  simp only [decide_eq_true_eq]
  omega

/-- `boundary_offset` on halting below offset 4 is the free value (R374, U4). -/
theorem haltBoundary_of_lt {s : State} (h : s.offset.toNat < 4) :
    haltBoundary s = Config.freeBoundaryOffset s.freeIndex := by
  unfold haltBoundary boundaryOpen
  rw [if_pos]
  simpa using h

/-- Everything the transition into Halted does. -/
theorem haltedStep_haltScan (s : State) : HaltedStep s s.haltScan where
  fsm := rfl
  boundaryValid := rfl
  binaryStart := rfl
  boundaryOffset h := by
    rw [State.haltScan_boundaryOffset, haltBoundary_of_le h]
    bv_omega
  programCounter := rfl
  offset := rfl
  jumpCount := rfl
  branchCount := rfl
  records := rfl
  inputs := SameInputs.of_fields rfl rfl rfl rfl rfl

/-! ### The step -/

theorem step_of_halted {s : State} (h : s.fsm = .halted) : step s = .next s := by
  simp only [step, h]

theorem step_of_endOfData {s : State} (hf : s.fsm = .scanning) (h : endOfData s s.offset.toNat = true) :
    step s = .next s.haltScan := by
  simp only [step, hf, h, if_true]

theorem step_of_read {s : State} {w : Word32} (hf : s.fsm = .scanning)
    (h : imgRead32 s s.offset.toNat = some w) : step s = stepWord w s := by
  have he : endOfData s s.offset.toNat = false := by
    rw [endOfData_eq_false]
    exact (imgRead32_eq_some.mp h).1
  simp only [step, hf, h, he, Bool.false_eq_true, if_false]

/-- The three ways a scanning step can go, and that there is no other: end of data, a rejected word, an accepted
instruction. -/
theorem step_scanning_cases (s : State) (hf : s.fsm = .scanning) :
    (endOfData s s.offset.toNat = true ∧ step s = .next s.haltScan) ∨
      ∃ w, imgRead32 s s.offset.toNat = some w ∧
        ((∃ c, decode w = .error c ∧ step s = .next s.haltScan) ∨ ∃ i, decode w = .ok i ∧ step s = exec i s) := by
  by_cases he : endOfData s s.offset.toNat = true
  · exact .inl ⟨he, step_of_endOfData hf he⟩
  · right
    obtain ⟨w, hw⟩ := Option.ne_none_iff_exists'.mp (fun hn => he (imgRead32_eq_none.mp hn))
    refine ⟨w, hw, ?_⟩
    rw [step_of_read hf hw]
    unfold stepWord
    cases hd : decode w with
    | error c => exact .inl ⟨c, rfl, rfl⟩
    | ok i => exact .inr ⟨i, rfl, rfl⟩

end Sys2Proof.Machine
end

