-- ==== Sys2Proof/Laws/PerInstr.lean ====
section
/-! SUPPORT. The family of statements `EncodesRow`, one lemma per constructor of `Instr`: the word the encoder writes
for an instruction, whatever its operands, fits the instruction's own row of the opcode table
(`30_encoding.md` R100), which is read from the spec's table and not from the encoder. -/

namespace Sys2Proof.Laws

open Sys2Proof.Machine

/-! ### Masking a word field by field -/

theorem rWord_and (op op' : BitVec 6) (a b c d a' b' c' d' : BitVec 5) (f f' : BitVec 6) :
    rWord op a b c d f &&& rWord op' a' b' c' d' f' =
      rWord (op &&& op') (a &&& a') (b &&& b') (c &&& c') (d &&& d') (f &&& f') := by
  have h : (op ++ a ++ b ++ c ++ d ++ f) &&& (op' ++ a' ++ b' ++ c' ++ d' ++ f') =
      (op &&& op') ++ (a &&& a') ++ (b &&& b') ++ (c &&& c') ++ (d &&& d') ++ (f &&& f') := by
    simp only [BitVec.and_append]
  exact h

theorem iWord_and (op op' : BitVec 6) (a b a' b' : BitVec 5) (i i' : BitVec 16) :
    iWord op a b i &&& iWord op' a' b' i' = iWord (op &&& op') (a &&& a') (b &&& b') (i &&& i') := by
  have h : (op ++ a ++ b ++ i) &&& (op' ++ a' ++ b' ++ i') =
      (op &&& op') ++ (a &&& a') ++ (b &&& b') ++ (i &&& i') := by
    simp only [BitVec.and_append]
  exact h

theorem jWord_and (op op' : BitVec 6) (t t' : BitVec 26) :
    jWord op t &&& jWord op' t' = jWord (op &&& op') (t &&& t') := by
  have h : (op ++ t) &&& (op' ++ t') = (op &&& op') ++ (t &&& t') := by
    simp only [BitVec.and_append]
  exact h

/-- Masking the bits after the code bits. -/
theorem code_and (c : BitVec 20) (f f' : BitVec 6) :
    (c ++ f : BitVec 26) &&& (0#20 ++ f' : BitVec 26) = 0#20 ++ (f &&& f') := by
  have h : (c ++ f) &&& (0#20 ++ f') = 0#20 ++ (f &&& f') := by
    simp only [BitVec.and_append, BitVec.and_zero]
  exact h

/-- Masking the bits after a trap code. -/
theorem trap_and (c : BitVec 10) (f f' : BitVec 6) :
    (c ++ f : BitVec 16) &&& (0#10 ++ f' : BitVec 16) = 0#10 ++ (f &&& f') := by
  have h : (c ++ f) &&& (0#10 ++ f') = 0#10 ++ (f &&& f') := by
    simp only [BitVec.and_append, BitVec.and_zero]
  exact h

/-- Masking the selector bits of a coprocessor branch. -/
theorem select_and (x : BitVec 3) (f f' : BitVec 2) :
    (x ++ f : BitVec 5) &&& (0#3 ++ f' : BitVec 5) = 0#3 ++ (f &&& f') := by
  have h : (x ++ f) &&& (0#3 ++ f') = 0#3 ++ (f &&& f') := by
    simp only [BitVec.and_append, BitVec.and_zero]
  exact h

/-- Masking the gate bit of a format tag. -/
theorem tag_and (m : BitVec 4) : (1#1 ++ m : BitVec 5) &&& (1#1 ++ 0#4 : BitVec 5) = 16#5 := by
  have h : (1#1 ++ m) &&& (1#1 ++ 0#4) = 1#1 ++ 0#4 := by
    simp only [BitVec.and_append, BitVec.and_zero, BitVec.and_self]
  exact h

/-- Masking the low eleven bits of a move. -/
theorem move_and (d : BitVec 5) : (d ++ 0#11 : BitVec 16) &&& (0#5 ++ 2047#11 : BitVec 16) = 0#16 := by
  have h : (d ++ 0#11) &&& (0#5 ++ 2047#11) = 0#5 ++ 0#11 := by
    simp only [BitVec.and_append, BitVec.and_zero, BitVec.zero_and]
  exact h

/-- Masking the compare window. -/
theorem window_and (fs : BitVec 5) (x : BitVec 3) (cond : BitVec 4) :
    (fs ++ x ++ 3#4 ++ cond : BitVec 16) &&& (0#5 ++ 0#3 ++ 15#4 ++ 0#4 : BitVec 16) = 0x30#16 := by
  have h : (fs ++ x ++ 3#4 ++ cond) &&& (0#5 ++ 0#3 ++ 15#4 ++ 0#4) = 0#5 ++ 0#3 ++ 3#4 ++ 0#4 := by
    simp only [BitVec.and_append, BitVec.and_zero]
    rfl
  exact h

/-- A word fits a row when each of its fields does, for a row cut by the R-view. -/
theorem fits_rWord {row : TableRow} {op op' : BitVec 6} {a b c d a' b' c' d' : BitVec 5} {f f' : BitVec 6}
    (hm : row.mask = rWord op' a' b' c' d' f')
    (hb : row.bits = rWord (op &&& op') (a &&& a') (b &&& b') (c &&& c') (d &&& d') (f &&& f')) :
    row.fits (rWord op a b c d f) = true := by
  rw [TableRow.fits, hm, rWord_and, hb]
  exact beq_self_eq_true _

/-- The same for a row cut by the I-view. -/
theorem fits_iWord {row : TableRow} {op op' : BitVec 6} {a b a' b' : BitVec 5} {i i' : BitVec 16}
    (hm : row.mask = iWord op' a' b' i')
    (hb : row.bits = iWord (op &&& op') (a &&& a') (b &&& b') (i &&& i')) :
    row.fits (iWord op a b i) = true := by
  rw [TableRow.fits, hm, iWord_and, hb]
  exact beq_self_eq_true _

/-- The same for a row cut by the J-view. -/
theorem fits_jWord {row : TableRow} {op op' : BitVec 6} {t t' : BitVec 26}
    (hm : row.mask = jWord op' t') (hb : row.bits = jWord (op &&& op') (t &&& t')) :
    row.fits (jWord op t) = true := by
  rw [TableRow.fits, hm, jWord_and, hb]
  exact beq_self_eq_true _

/-! ### The family -/

/-- `i`'s word fits `i`'s row of the opcode table. -/
def EncodesRow.Statement (i : Instr) : Prop :=
  ∃ row ∈ opcodeTable, row.mn = instrMnemonic i ∧ row.via = instrVia i ∧ row.fits (encode i) = true

theorem EncodesRow.of_row {i : Instr} (row : TableRow) (rows : List TableRow) (hsub : rows ⊆ opcodeTable)
    (hmem : row ∈ rows) (hmn : row.mn = instrMnemonic i) (hvia : row.via = instrVia i)
    (hfits : row.fits (encode i) = true) : EncodesRow.Statement i :=
  ⟨row, hsub hmem, hmn, hvia, hfits⟩

theorem rFormRows_subset : rFormRows ⊆ opcodeTable := by
  intro row h
  simp only [opcodeTable, List.mem_append]
  tauto

theorem iFormRows_subset : iFormRows ⊆ opcodeTable := by
  intro row h
  simp only [opcodeTable, List.mem_append]
  tauto

theorem regimmRows_subset : regimmRows ⊆ opcodeTable := by
  intro row h
  simp only [opcodeTable, List.mem_append]
  tauto

theorem copBranchRows_subset : copBranchRows ⊆ opcodeTable := by
  intro row h
  simp only [opcodeTable, List.mem_append]
  tauto

theorem copFloatRows_subset : copFloatRows ⊆ opcodeTable := by
  intro row h
  simp only [opcodeTable, List.mem_append]
  tauto

theorem copMoveRows_subset : copMoveRows ⊆ opcodeTable := by
  intro row h
  simp only [opcodeTable, List.mem_append]
  tauto

theorem jFormRows_subset : jFormRows ⊆ opcodeTable := by
  intro row h
  simp only [opcodeTable, List.mem_append]
  tauto

theorem EncodesRow.nopSll (rd rt : BitVec 5) : EncodesRow.Statement (.nopSll rd rt) :=
  EncodesRow.of_row ⟨.nop, .some .sll, .R, 0x00000000#32, 0xFFE007FF#32, 0x00000000#32, 0xFC00003F#32, 0⟩
    rFormRows rFormRows_subset (by decide) rfl rfl
    (fits_rWord (op' := 63#6) (a' := 31#5) (b' := 0#5) (c' := 0#5) (d' := 31#5) (f' := 63#6) (by decide) (by simp only [BitVec.and_zero]; rfl))

theorem EncodesRow.sll (rd rt shamt : BitVec 5) : EncodesRow.Statement (.sll rd rt shamt) :=
  EncodesRow.of_row ⟨.sll, none, .R, 0x00000000#32, 0xFFE0003F#32, 0x00000000#32, 0xFC00003F#32, 1⟩
    rFormRows rFormRows_subset (by decide) rfl rfl
    (fits_rWord (op' := 63#6) (a' := 31#5) (b' := 0#5) (c' := 0#5) (d' := 0#5) (f' := 63#6) (by decide) (by simp only [BitVec.and_zero]; rfl))

theorem EncodesRow.srl (rd rt shamt : BitVec 5) : EncodesRow.Statement (.srl rd rt shamt) :=
  EncodesRow.of_row ⟨.srl, none, .R, 0x00000002#32, 0xFFE0003F#32, 0x00000002#32, 0xFC00003F#32, 1⟩
    rFormRows rFormRows_subset (by decide) rfl rfl
    (fits_rWord (op' := 63#6) (a' := 31#5) (b' := 0#5) (c' := 0#5) (d' := 0#5) (f' := 63#6) (by decide) (by simp only [BitVec.and_zero]; rfl))

theorem EncodesRow.sra (rd rt shamt : BitVec 5) : EncodesRow.Statement (.sra rd rt shamt) :=
  EncodesRow.of_row ⟨.sra, none, .R, 0x00000003#32, 0xFFE0003F#32, 0x00000003#32, 0xFC00003F#32, 1⟩
    rFormRows rFormRows_subset (by decide) rfl rfl
    (fits_rWord (op' := 63#6) (a' := 31#5) (b' := 0#5) (c' := 0#5) (d' := 0#5) (f' := 63#6) (by decide) (by simp only [BitVec.and_zero]; rfl))

theorem EncodesRow.sllv (rd rt rs : BitVec 5) : EncodesRow.Statement (.sllv rd rt rs) :=
  EncodesRow.of_row ⟨.sllv, none, .R, 0x00000004#32, 0xFC0007FF#32, 0x00000004#32, 0xFC00003F#32, 1⟩
    rFormRows rFormRows_subset (by decide) rfl rfl
    (fits_rWord (op' := 63#6) (a' := 0#5) (b' := 0#5) (c' := 0#5) (d' := 31#5) (f' := 63#6) (by decide) (by simp only [BitVec.and_zero]; rfl))

theorem EncodesRow.srlv (rd rt rs : BitVec 5) : EncodesRow.Statement (.srlv rd rt rs) :=
  EncodesRow.of_row ⟨.srlv, none, .R, 0x00000006#32, 0xFC0007FF#32, 0x00000006#32, 0xFC00003F#32, 1⟩
    rFormRows rFormRows_subset (by decide) rfl rfl
    (fits_rWord (op' := 63#6) (a' := 0#5) (b' := 0#5) (c' := 0#5) (d' := 31#5) (f' := 63#6) (by decide) (by simp only [BitVec.and_zero]; rfl))

theorem EncodesRow.srav (rd rt rs : BitVec 5) : EncodesRow.Statement (.srav rd rt rs) :=
  EncodesRow.of_row ⟨.srav, none, .R, 0x00000007#32, 0xFC0007FF#32, 0x00000007#32, 0xFC00003F#32, 1⟩
    rFormRows rFormRows_subset (by decide) rfl rfl
    (fits_rWord (op' := 63#6) (a' := 0#5) (b' := 0#5) (c' := 0#5) (d' := 31#5) (f' := 63#6) (by decide) (by simp only [BitVec.and_zero]; rfl))

theorem EncodesRow.jr (rs : BitVec 5) : EncodesRow.Statement (.jr rs) :=
  EncodesRow.of_row ⟨.jr, none, .R, 0x00000008#32, 0xFC1FFFFF#32, 0x00000008#32, 0xFC00003F#32, 1⟩
    rFormRows rFormRows_subset (by decide) rfl rfl
    (fits_rWord (op' := 63#6) (a' := 0#5) (b' := 31#5) (c' := 31#5) (d' := 31#5) (f' := 63#6) (by decide) (by simp only [BitVec.and_zero]; rfl))

theorem EncodesRow.jalr (rd rs : BitVec 5) : EncodesRow.Statement (.jalr rd rs) :=
  EncodesRow.of_row ⟨.jalr, none, .R, 0x00000009#32, 0xFC1F07FF#32, 0x00000009#32, 0xFC00003F#32, 1⟩
    rFormRows rFormRows_subset (by decide) rfl rfl
    (fits_rWord (op' := 63#6) (a' := 0#5) (b' := 31#5) (c' := 0#5) (d' := 31#5) (f' := 63#6) (by decide) (by simp only [BitVec.and_zero]; rfl))

theorem EncodesRow.syscall (code : BitVec 20) : EncodesRow.Statement (.syscall code) :=
  EncodesRow.of_row ⟨.syscall, none, .R, 0x0000000C#32, 0xFC00003F#32, 0x0000000C#32, 0xFC00003F#32, 1⟩
    rFormRows rFormRows_subset (by decide) rfl rfl
    (fits_jWord (op' := 63#6) (t' := (0#20 ++ 63#6)) (by decide) (by simp only [code_and]; rfl))

theorem EncodesRow.brk (code : BitVec 20) : EncodesRow.Statement (.brk code) :=
  EncodesRow.of_row ⟨.brk, none, .R, 0x0000000D#32, 0xFC00003F#32, 0x0000000D#32, 0xFC00003F#32, 1⟩
    rFormRows rFormRows_subset (by decide) rfl rfl
    (fits_jWord (op' := 63#6) (t' := (0#20 ++ 63#6)) (by decide) (by simp only [code_and]; rfl))

theorem EncodesRow.nopSync (bits : BitVec 20) : EncodesRow.Statement (.nopSync bits) :=
  EncodesRow.of_row ⟨.nop, .some .sync, .R, 0x0000000F#32, 0xFC00003F#32, 0x0000000F#32, 0xFC00003F#32, 1⟩
    rFormRows rFormRows_subset (by decide) rfl rfl
    (fits_jWord (op' := 63#6) (t' := (0#20 ++ 63#6)) (by decide) (by simp only [code_and]; rfl))

theorem EncodesRow.mfhi (rd : BitVec 5) : EncodesRow.Statement (.mfhi rd) :=
  EncodesRow.of_row ⟨.mfhi, none, .R, 0x00000010#32, 0xFFFF07FF#32, 0x00000010#32, 0xFC00003F#32, 1⟩
    rFormRows rFormRows_subset (by decide) rfl rfl
    (fits_rWord (op' := 63#6) (a' := 31#5) (b' := 31#5) (c' := 0#5) (d' := 31#5) (f' := 63#6) (by decide) (by simp only [BitVec.and_zero]; rfl))

theorem EncodesRow.mthi (rs : BitVec 5) : EncodesRow.Statement (.mthi rs) :=
  EncodesRow.of_row ⟨.mthi, none, .R, 0x00000011#32, 0xFC1FFFFF#32, 0x00000011#32, 0xFC00003F#32, 1⟩
    rFormRows rFormRows_subset (by decide) rfl rfl
    (fits_rWord (op' := 63#6) (a' := 0#5) (b' := 31#5) (c' := 31#5) (d' := 31#5) (f' := 63#6) (by decide) (by simp only [BitVec.and_zero]; rfl))

theorem EncodesRow.mflo (rd : BitVec 5) : EncodesRow.Statement (.mflo rd) :=
  EncodesRow.of_row ⟨.mflo, none, .R, 0x00000012#32, 0xFFFF07FF#32, 0x00000012#32, 0xFC00003F#32, 1⟩
    rFormRows rFormRows_subset (by decide) rfl rfl
    (fits_rWord (op' := 63#6) (a' := 31#5) (b' := 31#5) (c' := 0#5) (d' := 31#5) (f' := 63#6) (by decide) (by simp only [BitVec.and_zero]; rfl))

theorem EncodesRow.mtlo (rs : BitVec 5) : EncodesRow.Statement (.mtlo rs) :=
  EncodesRow.of_row ⟨.mtlo, none, .R, 0x00000013#32, 0xFC1FFFFF#32, 0x00000013#32, 0xFC00003F#32, 1⟩
    rFormRows rFormRows_subset (by decide) rfl rfl
    (fits_rWord (op' := 63#6) (a' := 0#5) (b' := 31#5) (c' := 31#5) (d' := 31#5) (f' := 63#6) (by decide) (by simp only [BitVec.and_zero]; rfl))

theorem EncodesRow.dsllv (rd rt rs : BitVec 5) : EncodesRow.Statement (.dsllv rd rt rs) :=
  EncodesRow.of_row ⟨.dsllv, none, .R, 0x00000014#32, 0xFC0007FF#32, 0x00000014#32, 0xFC00003F#32, 1⟩
    rFormRows rFormRows_subset (by decide) rfl rfl
    (fits_rWord (op' := 63#6) (a' := 0#5) (b' := 0#5) (c' := 0#5) (d' := 31#5) (f' := 63#6) (by decide) (by simp only [BitVec.and_zero]; rfl))

theorem EncodesRow.dsrlv (rd rt rs : BitVec 5) : EncodesRow.Statement (.dsrlv rd rt rs) :=
  EncodesRow.of_row ⟨.dsrlv, none, .R, 0x00000016#32, 0xFC0007FF#32, 0x00000016#32, 0xFC00003F#32, 1⟩
    rFormRows rFormRows_subset (by decide) rfl rfl
    (fits_rWord (op' := 63#6) (a' := 0#5) (b' := 0#5) (c' := 0#5) (d' := 31#5) (f' := 63#6) (by decide) (by simp only [BitVec.and_zero]; rfl))

theorem EncodesRow.dsrav (rd rt rs : BitVec 5) : EncodesRow.Statement (.dsrav rd rt rs) :=
  EncodesRow.of_row ⟨.dsrav, none, .R, 0x00000017#32, 0xFC0007FF#32, 0x00000017#32, 0xFC00003F#32, 1⟩
    rFormRows rFormRows_subset (by decide) rfl rfl
    (fits_rWord (op' := 63#6) (a' := 0#5) (b' := 0#5) (c' := 0#5) (d' := 31#5) (f' := 63#6) (by decide) (by simp only [BitVec.and_zero]; rfl))

theorem EncodesRow.mult (rs rt : BitVec 5) : EncodesRow.Statement (.mult rs rt) :=
  EncodesRow.of_row ⟨.mult, none, .R, 0x00000018#32, 0xFC00FFFF#32, 0x00000018#32, 0xFC00003F#32, 1⟩
    rFormRows rFormRows_subset (by decide) rfl rfl
    (fits_rWord (op' := 63#6) (a' := 0#5) (b' := 0#5) (c' := 31#5) (d' := 31#5) (f' := 63#6) (by decide) (by simp only [BitVec.and_zero]; rfl))

theorem EncodesRow.multu (rs rt : BitVec 5) : EncodesRow.Statement (.multu rs rt) :=
  EncodesRow.of_row ⟨.multu, none, .R, 0x00000019#32, 0xFC00FFFF#32, 0x00000019#32, 0xFC00003F#32, 1⟩
    rFormRows rFormRows_subset (by decide) rfl rfl
    (fits_rWord (op' := 63#6) (a' := 0#5) (b' := 0#5) (c' := 31#5) (d' := 31#5) (f' := 63#6) (by decide) (by simp only [BitVec.and_zero]; rfl))

theorem EncodesRow.div (rs rt : BitVec 5) : EncodesRow.Statement (.div rs rt) :=
  EncodesRow.of_row ⟨.div, none, .R, 0x0000001A#32, 0xFC00FFFF#32, 0x0000001A#32, 0xFC00003F#32, 1⟩
    rFormRows rFormRows_subset (by decide) rfl rfl
    (fits_rWord (op' := 63#6) (a' := 0#5) (b' := 0#5) (c' := 31#5) (d' := 31#5) (f' := 63#6) (by decide) (by simp only [BitVec.and_zero]; rfl))

theorem EncodesRow.divu (rs rt : BitVec 5) : EncodesRow.Statement (.divu rs rt) :=
  EncodesRow.of_row ⟨.divu, none, .R, 0x0000001B#32, 0xFC00FFFF#32, 0x0000001B#32, 0xFC00003F#32, 1⟩
    rFormRows rFormRows_subset (by decide) rfl rfl
    (fits_rWord (op' := 63#6) (a' := 0#5) (b' := 0#5) (c' := 31#5) (d' := 31#5) (f' := 63#6) (by decide) (by simp only [BitVec.and_zero]; rfl))

theorem EncodesRow.dmult (rs rt : BitVec 5) : EncodesRow.Statement (.dmult rs rt) :=
  EncodesRow.of_row ⟨.dmult, none, .R, 0x0000001C#32, 0xFC00FFFF#32, 0x0000001C#32, 0xFC00003F#32, 1⟩
    rFormRows rFormRows_subset (by decide) rfl rfl
    (fits_rWord (op' := 63#6) (a' := 0#5) (b' := 0#5) (c' := 31#5) (d' := 31#5) (f' := 63#6) (by decide) (by simp only [BitVec.and_zero]; rfl))

theorem EncodesRow.dmultu (rs rt : BitVec 5) : EncodesRow.Statement (.dmultu rs rt) :=
  EncodesRow.of_row ⟨.dmultu, none, .R, 0x0000001D#32, 0xFC00FFFF#32, 0x0000001D#32, 0xFC00003F#32, 1⟩
    rFormRows rFormRows_subset (by decide) rfl rfl
    (fits_rWord (op' := 63#6) (a' := 0#5) (b' := 0#5) (c' := 31#5) (d' := 31#5) (f' := 63#6) (by decide) (by simp only [BitVec.and_zero]; rfl))

theorem EncodesRow.ddiv (rs rt : BitVec 5) : EncodesRow.Statement (.ddiv rs rt) :=
  EncodesRow.of_row ⟨.ddiv, none, .R, 0x0000001E#32, 0xFC00FFFF#32, 0x0000001E#32, 0xFC00003F#32, 1⟩
    rFormRows rFormRows_subset (by decide) rfl rfl
    (fits_rWord (op' := 63#6) (a' := 0#5) (b' := 0#5) (c' := 31#5) (d' := 31#5) (f' := 63#6) (by decide) (by simp only [BitVec.and_zero]; rfl))

theorem EncodesRow.ddivu (rs rt : BitVec 5) : EncodesRow.Statement (.ddivu rs rt) :=
  EncodesRow.of_row ⟨.ddivu, none, .R, 0x0000001F#32, 0xFC00FFFF#32, 0x0000001F#32, 0xFC00003F#32, 1⟩
    rFormRows rFormRows_subset (by decide) rfl rfl
    (fits_rWord (op' := 63#6) (a' := 0#5) (b' := 0#5) (c' := 31#5) (d' := 31#5) (f' := 63#6) (by decide) (by simp only [BitVec.and_zero]; rfl))

theorem EncodesRow.add (rd rs rt : BitVec 5) : EncodesRow.Statement (.add rd rs rt) :=
  EncodesRow.of_row ⟨.add, none, .R, 0x00000020#32, 0xFC0007FF#32, 0x00000020#32, 0xFC00003F#32, 1⟩
    rFormRows rFormRows_subset (by decide) rfl rfl
    (fits_rWord (op' := 63#6) (a' := 0#5) (b' := 0#5) (c' := 0#5) (d' := 31#5) (f' := 63#6) (by decide) (by simp only [BitVec.and_zero]; rfl))

theorem EncodesRow.move (rd rs : BitVec 5) : EncodesRow.Statement (.move rd rs) :=
  EncodesRow.of_row ⟨.move, .some .addu, .R, 0x00000021#32, 0xFC1F07FF#32, 0x00000021#32, 0xFC00003F#32, 0⟩
    rFormRows rFormRows_subset (by decide) rfl rfl
    (fits_rWord (op' := 63#6) (a' := 0#5) (b' := 31#5) (c' := 0#5) (d' := 31#5) (f' := 63#6) (by decide) (by simp only [BitVec.and_zero]; rfl))

theorem EncodesRow.addu (rd rs rt : BitVec 5) : EncodesRow.Statement (.addu rd rs rt) :=
  EncodesRow.of_row ⟨.addu, none, .R, 0x00000021#32, 0xFC0007FF#32, 0x00000021#32, 0xFC00003F#32, 1⟩
    rFormRows rFormRows_subset (by decide) rfl rfl
    (fits_rWord (op' := 63#6) (a' := 0#5) (b' := 0#5) (c' := 0#5) (d' := 31#5) (f' := 63#6) (by decide) (by simp only [BitVec.and_zero]; rfl))

theorem EncodesRow.sub (rd rs rt : BitVec 5) : EncodesRow.Statement (.sub rd rs rt) :=
  EncodesRow.of_row ⟨.sub, none, .R, 0x00000022#32, 0xFC0007FF#32, 0x00000022#32, 0xFC00003F#32, 1⟩
    rFormRows rFormRows_subset (by decide) rfl rfl
    (fits_rWord (op' := 63#6) (a' := 0#5) (b' := 0#5) (c' := 0#5) (d' := 31#5) (f' := 63#6) (by decide) (by simp only [BitVec.and_zero]; rfl))

theorem EncodesRow.subu (rd rs rt : BitVec 5) : EncodesRow.Statement (.subu rd rs rt) :=
  EncodesRow.of_row ⟨.subu, none, .R, 0x00000023#32, 0xFC0007FF#32, 0x00000023#32, 0xFC00003F#32, 1⟩
    rFormRows rFormRows_subset (by decide) rfl rfl
    (fits_rWord (op' := 63#6) (a' := 0#5) (b' := 0#5) (c' := 0#5) (d' := 31#5) (f' := 63#6) (by decide) (by simp only [BitVec.and_zero]; rfl))

theorem EncodesRow.and (rd rs rt : BitVec 5) : EncodesRow.Statement (.and rd rs rt) :=
  EncodesRow.of_row ⟨.and, none, .R, 0x00000024#32, 0xFC0007FF#32, 0x00000024#32, 0xFC00003F#32, 1⟩
    rFormRows rFormRows_subset (by decide) rfl rfl
    (fits_rWord (op' := 63#6) (a' := 0#5) (b' := 0#5) (c' := 0#5) (d' := 31#5) (f' := 63#6) (by decide) (by simp only [BitVec.and_zero]; rfl))

theorem EncodesRow.or (rd rs rt : BitVec 5) : EncodesRow.Statement (.or rd rs rt) :=
  EncodesRow.of_row ⟨.or, none, .R, 0x00000025#32, 0xFC0007FF#32, 0x00000025#32, 0xFC00003F#32, 1⟩
    rFormRows rFormRows_subset (by decide) rfl rfl
    (fits_rWord (op' := 63#6) (a' := 0#5) (b' := 0#5) (c' := 0#5) (d' := 31#5) (f' := 63#6) (by decide) (by simp only [BitVec.and_zero]; rfl))

theorem EncodesRow.xor (rd rs rt : BitVec 5) : EncodesRow.Statement (.xor rd rs rt) :=
  EncodesRow.of_row ⟨.xor, none, .R, 0x00000026#32, 0xFC0007FF#32, 0x00000026#32, 0xFC00003F#32, 1⟩
    rFormRows rFormRows_subset (by decide) rfl rfl
    (fits_rWord (op' := 63#6) (a' := 0#5) (b' := 0#5) (c' := 0#5) (d' := 31#5) (f' := 63#6) (by decide) (by simp only [BitVec.and_zero]; rfl))

theorem EncodesRow.nor (rd rs rt : BitVec 5) : EncodesRow.Statement (.nor rd rs rt) :=
  EncodesRow.of_row ⟨.nor, none, .R, 0x00000027#32, 0xFC0007FF#32, 0x00000027#32, 0xFC00003F#32, 1⟩
    rFormRows rFormRows_subset (by decide) rfl rfl
    (fits_rWord (op' := 63#6) (a' := 0#5) (b' := 0#5) (c' := 0#5) (d' := 31#5) (f' := 63#6) (by decide) (by simp only [BitVec.and_zero]; rfl))

theorem EncodesRow.slt (rd rs rt : BitVec 5) : EncodesRow.Statement (.slt rd rs rt) :=
  EncodesRow.of_row ⟨.slt, none, .R, 0x0000002A#32, 0xFC0007FF#32, 0x0000002A#32, 0xFC00003F#32, 1⟩
    rFormRows rFormRows_subset (by decide) rfl rfl
    (fits_rWord (op' := 63#6) (a' := 0#5) (b' := 0#5) (c' := 0#5) (d' := 31#5) (f' := 63#6) (by decide) (by simp only [BitVec.and_zero]; rfl))

theorem EncodesRow.sltu (rd rs rt : BitVec 5) : EncodesRow.Statement (.sltu rd rs rt) :=
  EncodesRow.of_row ⟨.sltu, none, .R, 0x0000002B#32, 0xFC0007FF#32, 0x0000002B#32, 0xFC00003F#32, 1⟩
    rFormRows rFormRows_subset (by decide) rfl rfl
    (fits_rWord (op' := 63#6) (a' := 0#5) (b' := 0#5) (c' := 0#5) (d' := 31#5) (f' := 63#6) (by decide) (by simp only [BitVec.and_zero]; rfl))

theorem EncodesRow.dadd (rd rs rt : BitVec 5) : EncodesRow.Statement (.dadd rd rs rt) :=
  EncodesRow.of_row ⟨.dadd, none, .R, 0x0000002C#32, 0xFC0007FF#32, 0x0000002C#32, 0xFC00003F#32, 1⟩
    rFormRows rFormRows_subset (by decide) rfl rfl
    (fits_rWord (op' := 63#6) (a' := 0#5) (b' := 0#5) (c' := 0#5) (d' := 31#5) (f' := 63#6) (by decide) (by simp only [BitVec.and_zero]; rfl))

theorem EncodesRow.daddu (rd rs rt : BitVec 5) : EncodesRow.Statement (.daddu rd rs rt) :=
  EncodesRow.of_row ⟨.daddu, none, .R, 0x0000002D#32, 0xFC0007FF#32, 0x0000002D#32, 0xFC00003F#32, 1⟩
    rFormRows rFormRows_subset (by decide) rfl rfl
    (fits_rWord (op' := 63#6) (a' := 0#5) (b' := 0#5) (c' := 0#5) (d' := 31#5) (f' := 63#6) (by decide) (by simp only [BitVec.and_zero]; rfl))

theorem EncodesRow.dsub (rd rs rt : BitVec 5) : EncodesRow.Statement (.dsub rd rs rt) :=
  EncodesRow.of_row ⟨.dsub, none, .R, 0x0000002E#32, 0xFC0007FF#32, 0x0000002E#32, 0xFC00003F#32, 1⟩
    rFormRows rFormRows_subset (by decide) rfl rfl
    (fits_rWord (op' := 63#6) (a' := 0#5) (b' := 0#5) (c' := 0#5) (d' := 31#5) (f' := 63#6) (by decide) (by simp only [BitVec.and_zero]; rfl))

theorem EncodesRow.dsubu (rd rs rt : BitVec 5) : EncodesRow.Statement (.dsubu rd rs rt) :=
  EncodesRow.of_row ⟨.dsubu, none, .R, 0x0000002F#32, 0xFC0007FF#32, 0x0000002F#32, 0xFC00003F#32, 1⟩
    rFormRows rFormRows_subset (by decide) rfl rfl
    (fits_rWord (op' := 63#6) (a' := 0#5) (b' := 0#5) (c' := 0#5) (d' := 31#5) (f' := 63#6) (by decide) (by simp only [BitVec.and_zero]; rfl))

theorem EncodesRow.tge (rs rt : BitVec 5) (code : BitVec 10) : EncodesRow.Statement (.tge rs rt code) :=
  EncodesRow.of_row ⟨.tge, none, .R, 0x00000030#32, 0xFC00003F#32, 0x00000030#32, 0xFC00003F#32, 1⟩
    rFormRows rFormRows_subset (by decide) rfl rfl
    (fits_iWord (op' := 63#6) (a' := 0#5) (b' := 0#5) (i' := (0#10 ++ 63#6)) (by decide) (by simp only [trap_and, BitVec.and_zero]; rfl))

theorem EncodesRow.tgeu (rs rt : BitVec 5) (code : BitVec 10) : EncodesRow.Statement (.tgeu rs rt code) :=
  EncodesRow.of_row ⟨.tgeu, none, .R, 0x00000031#32, 0xFC00003F#32, 0x00000031#32, 0xFC00003F#32, 1⟩
    rFormRows rFormRows_subset (by decide) rfl rfl
    (fits_iWord (op' := 63#6) (a' := 0#5) (b' := 0#5) (i' := (0#10 ++ 63#6)) (by decide) (by simp only [trap_and, BitVec.and_zero]; rfl))

theorem EncodesRow.tlt (rs rt : BitVec 5) (code : BitVec 10) : EncodesRow.Statement (.tlt rs rt code) :=
  EncodesRow.of_row ⟨.tlt, none, .R, 0x00000032#32, 0xFC00003F#32, 0x00000032#32, 0xFC00003F#32, 1⟩
    rFormRows rFormRows_subset (by decide) rfl rfl
    (fits_iWord (op' := 63#6) (a' := 0#5) (b' := 0#5) (i' := (0#10 ++ 63#6)) (by decide) (by simp only [trap_and, BitVec.and_zero]; rfl))

theorem EncodesRow.tltu (rs rt : BitVec 5) (code : BitVec 10) : EncodesRow.Statement (.tltu rs rt code) :=
  EncodesRow.of_row ⟨.tltu, none, .R, 0x00000033#32, 0xFC00003F#32, 0x00000033#32, 0xFC00003F#32, 1⟩
    rFormRows rFormRows_subset (by decide) rfl rfl
    (fits_iWord (op' := 63#6) (a' := 0#5) (b' := 0#5) (i' := (0#10 ++ 63#6)) (by decide) (by simp only [trap_and, BitVec.and_zero]; rfl))

theorem EncodesRow.teq (rs rt : BitVec 5) (code : BitVec 10) : EncodesRow.Statement (.teq rs rt code) :=
  EncodesRow.of_row ⟨.teq, none, .R, 0x00000034#32, 0xFC00003F#32, 0x00000034#32, 0xFC00003F#32, 1⟩
    rFormRows rFormRows_subset (by decide) rfl rfl
    (fits_iWord (op' := 63#6) (a' := 0#5) (b' := 0#5) (i' := (0#10 ++ 63#6)) (by decide) (by simp only [trap_and, BitVec.and_zero]; rfl))

theorem EncodesRow.tne (rs rt : BitVec 5) (code : BitVec 10) : EncodesRow.Statement (.tne rs rt code) :=
  EncodesRow.of_row ⟨.tne, none, .R, 0x00000036#32, 0xFC00003F#32, 0x00000036#32, 0xFC00003F#32, 1⟩
    rFormRows rFormRows_subset (by decide) rfl rfl
    (fits_iWord (op' := 63#6) (a' := 0#5) (b' := 0#5) (i' := (0#10 ++ 63#6)) (by decide) (by simp only [trap_and, BitVec.and_zero]; rfl))

theorem EncodesRow.dsll (rd rt shamt : BitVec 5) : EncodesRow.Statement (.dsll rd rt shamt) :=
  EncodesRow.of_row ⟨.dsll, none, .R, 0x00000038#32, 0xFFE0003F#32, 0x00000038#32, 0xFC00003F#32, 1⟩
    rFormRows rFormRows_subset (by decide) rfl rfl
    (fits_rWord (op' := 63#6) (a' := 31#5) (b' := 0#5) (c' := 0#5) (d' := 0#5) (f' := 63#6) (by decide) (by simp only [BitVec.and_zero]; rfl))

theorem EncodesRow.dsrl (rd rt shamt : BitVec 5) : EncodesRow.Statement (.dsrl rd rt shamt) :=
  EncodesRow.of_row ⟨.dsrl, none, .R, 0x0000003A#32, 0xFFE0003F#32, 0x0000003A#32, 0xFC00003F#32, 1⟩
    rFormRows rFormRows_subset (by decide) rfl rfl
    (fits_rWord (op' := 63#6) (a' := 31#5) (b' := 0#5) (c' := 0#5) (d' := 0#5) (f' := 63#6) (by decide) (by simp only [BitVec.and_zero]; rfl))

theorem EncodesRow.dsra (rd rt shamt : BitVec 5) : EncodesRow.Statement (.dsra rd rt shamt) :=
  EncodesRow.of_row ⟨.dsra, none, .R, 0x0000003B#32, 0xFFE0003F#32, 0x0000003B#32, 0xFC00003F#32, 1⟩
    rFormRows rFormRows_subset (by decide) rfl rfl
    (fits_rWord (op' := 63#6) (a' := 31#5) (b' := 0#5) (c' := 0#5) (d' := 0#5) (f' := 63#6) (by decide) (by simp only [BitVec.and_zero]; rfl))

theorem EncodesRow.dsll32 (rd rt shamt : BitVec 5) : EncodesRow.Statement (.dsll32 rd rt shamt) :=
  EncodesRow.of_row ⟨.dsll32, none, .R, 0x0000003C#32, 0xFFE0003F#32, 0x0000003C#32, 0xFC00003F#32, 1⟩
    rFormRows rFormRows_subset (by decide) rfl rfl
    (fits_rWord (op' := 63#6) (a' := 31#5) (b' := 0#5) (c' := 0#5) (d' := 0#5) (f' := 63#6) (by decide) (by simp only [BitVec.and_zero]; rfl))

theorem EncodesRow.dsrl32 (rd rt shamt : BitVec 5) : EncodesRow.Statement (.dsrl32 rd rt shamt) :=
  EncodesRow.of_row ⟨.dsrl32, none, .R, 0x0000003E#32, 0xFFE0003F#32, 0x0000003E#32, 0xFC00003F#32, 1⟩
    rFormRows rFormRows_subset (by decide) rfl rfl
    (fits_rWord (op' := 63#6) (a' := 31#5) (b' := 0#5) (c' := 0#5) (d' := 0#5) (f' := 63#6) (by decide) (by simp only [BitVec.and_zero]; rfl))

theorem EncodesRow.dsra32 (rd rt shamt : BitVec 5) : EncodesRow.Statement (.dsra32 rd rt shamt) :=
  EncodesRow.of_row ⟨.dsra32, none, .R, 0x0000003F#32, 0xFFE0003F#32, 0x0000003F#32, 0xFC00003F#32, 1⟩
    rFormRows rFormRows_subset (by decide) rfl rfl
    (fits_rWord (op' := 63#6) (a' := 31#5) (b' := 0#5) (c' := 0#5) (d' := 0#5) (f' := 63#6) (by decide) (by simp only [BitVec.and_zero]; rfl))

theorem EncodesRow.beq (rs rt : BitVec 5) (imm : BitVec 16) : EncodesRow.Statement (.beq rs rt imm) :=
  EncodesRow.of_row ⟨.beq, none, .I, 0x10000000#32, 0xFC000000#32, 0x10000000#32, 0xFC000000#32, 1⟩
    iFormRows iFormRows_subset (by decide) rfl rfl
    (fits_iWord (op' := 63#6) (a' := 0#5) (b' := 0#5) (i' := 0#16) (by decide) (by simp only [BitVec.and_zero]; rfl))

theorem EncodesRow.bne (rs rt : BitVec 5) (imm : BitVec 16) : EncodesRow.Statement (.bne rs rt imm) :=
  EncodesRow.of_row ⟨.bne, none, .I, 0x14000000#32, 0xFC000000#32, 0x14000000#32, 0xFC000000#32, 1⟩
    iFormRows iFormRows_subset (by decide) rfl rfl
    (fits_iWord (op' := 63#6) (a' := 0#5) (b' := 0#5) (i' := 0#16) (by decide) (by simp only [BitVec.and_zero]; rfl))

theorem EncodesRow.blez (rs : BitVec 5) (imm : BitVec 16) : EncodesRow.Statement (.blez rs imm) :=
  EncodesRow.of_row ⟨.blez, none, .I, 0x18000000#32, 0xFC1F0000#32, 0x18000000#32, 0xFC000000#32, 1⟩
    iFormRows iFormRows_subset (by decide) rfl rfl
    (fits_iWord (op' := 63#6) (a' := 0#5) (b' := 31#5) (i' := 0#16) (by decide) (by simp only [BitVec.and_zero]; rfl))

theorem EncodesRow.bgtz (rs : BitVec 5) (imm : BitVec 16) : EncodesRow.Statement (.bgtz rs imm) :=
  EncodesRow.of_row ⟨.bgtz, none, .I, 0x1C000000#32, 0xFC1F0000#32, 0x1C000000#32, 0xFC000000#32, 1⟩
    iFormRows iFormRows_subset (by decide) rfl rfl
    (fits_iWord (op' := 63#6) (a' := 0#5) (b' := 31#5) (i' := 0#16) (by decide) (by simp only [BitVec.and_zero]; rfl))

theorem EncodesRow.addi (rt rs : BitVec 5) (imm : BitVec 16) : EncodesRow.Statement (.addi rt rs imm) :=
  EncodesRow.of_row ⟨.addi, none, .I, 0x20000000#32, 0xFC000000#32, 0x20000000#32, 0xFC000000#32, 1⟩
    iFormRows iFormRows_subset (by decide) rfl rfl
    (fits_iWord (op' := 63#6) (a' := 0#5) (b' := 0#5) (i' := 0#16) (by decide) (by simp only [BitVec.and_zero]; rfl))

theorem EncodesRow.addiu (rt rs : BitVec 5) (imm : BitVec 16) : EncodesRow.Statement (.addiu rt rs imm) :=
  EncodesRow.of_row ⟨.addiu, none, .I, 0x24000000#32, 0xFC000000#32, 0x24000000#32, 0xFC000000#32, 1⟩
    iFormRows iFormRows_subset (by decide) rfl rfl
    (fits_iWord (op' := 63#6) (a' := 0#5) (b' := 0#5) (i' := 0#16) (by decide) (by simp only [BitVec.and_zero]; rfl))

theorem EncodesRow.slti (rt rs : BitVec 5) (imm : BitVec 16) : EncodesRow.Statement (.slti rt rs imm) :=
  EncodesRow.of_row ⟨.slti, none, .I, 0x28000000#32, 0xFC000000#32, 0x28000000#32, 0xFC000000#32, 1⟩
    iFormRows iFormRows_subset (by decide) rfl rfl
    (fits_iWord (op' := 63#6) (a' := 0#5) (b' := 0#5) (i' := 0#16) (by decide) (by simp only [BitVec.and_zero]; rfl))

theorem EncodesRow.sltiu (rt rs : BitVec 5) (imm : BitVec 16) : EncodesRow.Statement (.sltiu rt rs imm) :=
  EncodesRow.of_row ⟨.sltiu, none, .I, 0x2C000000#32, 0xFC000000#32, 0x2C000000#32, 0xFC000000#32, 1⟩
    iFormRows iFormRows_subset (by decide) rfl rfl
    (fits_iWord (op' := 63#6) (a' := 0#5) (b' := 0#5) (i' := 0#16) (by decide) (by simp only [BitVec.and_zero]; rfl))

theorem EncodesRow.andi (rt rs : BitVec 5) (imm : BitVec 16) : EncodesRow.Statement (.andi rt rs imm) :=
  EncodesRow.of_row ⟨.andi, none, .I, 0x30000000#32, 0xFC000000#32, 0x30000000#32, 0xFC000000#32, 1⟩
    iFormRows iFormRows_subset (by decide) rfl rfl
    (fits_iWord (op' := 63#6) (a' := 0#5) (b' := 0#5) (i' := 0#16) (by decide) (by simp only [BitVec.and_zero]; rfl))

theorem EncodesRow.ori (rt rs : BitVec 5) (imm : BitVec 16) : EncodesRow.Statement (.ori rt rs imm) :=
  EncodesRow.of_row ⟨.ori, none, .I, 0x34000000#32, 0xFC000000#32, 0x34000000#32, 0xFC000000#32, 1⟩
    iFormRows iFormRows_subset (by decide) rfl rfl
    (fits_iWord (op' := 63#6) (a' := 0#5) (b' := 0#5) (i' := 0#16) (by decide) (by simp only [BitVec.and_zero]; rfl))

theorem EncodesRow.xori (rt rs : BitVec 5) (imm : BitVec 16) : EncodesRow.Statement (.xori rt rs imm) :=
  EncodesRow.of_row ⟨.xori, none, .I, 0x38000000#32, 0xFC000000#32, 0x38000000#32, 0xFC000000#32, 1⟩
    iFormRows iFormRows_subset (by decide) rfl rfl
    (fits_iWord (op' := 63#6) (a' := 0#5) (b' := 0#5) (i' := 0#16) (by decide) (by simp only [BitVec.and_zero]; rfl))

theorem EncodesRow.lui (rt : BitVec 5) (imm : BitVec 16) : EncodesRow.Statement (.lui rt imm) :=
  EncodesRow.of_row ⟨.lui, none, .I, 0x3C000000#32, 0xFFE00000#32, 0x3C000000#32, 0xFC000000#32, 1⟩
    iFormRows iFormRows_subset (by decide) rfl rfl
    (fits_iWord (op' := 63#6) (a' := 31#5) (b' := 0#5) (i' := 0#16) (by decide) (by simp only [BitVec.and_zero]; rfl))

theorem EncodesRow.beql (rs rt : BitVec 5) (imm : BitVec 16) : EncodesRow.Statement (.beql rs rt imm) :=
  EncodesRow.of_row ⟨.beql, none, .I, 0x50000000#32, 0xFC000000#32, 0x50000000#32, 0xFC000000#32, 1⟩
    iFormRows iFormRows_subset (by decide) rfl rfl
    (fits_iWord (op' := 63#6) (a' := 0#5) (b' := 0#5) (i' := 0#16) (by decide) (by simp only [BitVec.and_zero]; rfl))

theorem EncodesRow.bnel (rs rt : BitVec 5) (imm : BitVec 16) : EncodesRow.Statement (.bnel rs rt imm) :=
  EncodesRow.of_row ⟨.bnel, none, .I, 0x54000000#32, 0xFC000000#32, 0x54000000#32, 0xFC000000#32, 1⟩
    iFormRows iFormRows_subset (by decide) rfl rfl
    (fits_iWord (op' := 63#6) (a' := 0#5) (b' := 0#5) (i' := 0#16) (by decide) (by simp only [BitVec.and_zero]; rfl))

theorem EncodesRow.daddi (rt rs : BitVec 5) (imm : BitVec 16) : EncodesRow.Statement (.daddi rt rs imm) :=
  EncodesRow.of_row ⟨.daddi, none, .I, 0x60000000#32, 0xFC000000#32, 0x60000000#32, 0xFC000000#32, 1⟩
    iFormRows iFormRows_subset (by decide) rfl rfl
    (fits_iWord (op' := 63#6) (a' := 0#5) (b' := 0#5) (i' := 0#16) (by decide) (by simp only [BitVec.and_zero]; rfl))

theorem EncodesRow.daddiu (rt rs : BitVec 5) (imm : BitVec 16) : EncodesRow.Statement (.daddiu rt rs imm) :=
  EncodesRow.of_row ⟨.daddiu, none, .I, 0x64000000#32, 0xFC000000#32, 0x64000000#32, 0xFC000000#32, 1⟩
    iFormRows iFormRows_subset (by decide) rfl rfl
    (fits_iWord (op' := 63#6) (a' := 0#5) (b' := 0#5) (i' := 0#16) (by decide) (by simp only [BitVec.and_zero]; rfl))

theorem EncodesRow.lb (rt rs : BitVec 5) (imm : BitVec 16) : EncodesRow.Statement (.lb rt imm rs) :=
  EncodesRow.of_row ⟨.lb, none, .I, 0x80000000#32, 0xFC000000#32, 0x80000000#32, 0xFC000000#32, 1⟩
    iFormRows iFormRows_subset (by decide) rfl rfl
    (fits_iWord (op' := 63#6) (a' := 0#5) (b' := 0#5) (i' := 0#16) (by decide) (by simp only [BitVec.and_zero]; rfl))

theorem EncodesRow.lh (rt rs : BitVec 5) (imm : BitVec 16) : EncodesRow.Statement (.lh rt imm rs) :=
  EncodesRow.of_row ⟨.lh, none, .I, 0x84000000#32, 0xFC000000#32, 0x84000000#32, 0xFC000000#32, 1⟩
    iFormRows iFormRows_subset (by decide) rfl rfl
    (fits_iWord (op' := 63#6) (a' := 0#5) (b' := 0#5) (i' := 0#16) (by decide) (by simp only [BitVec.and_zero]; rfl))

theorem EncodesRow.lwl (rt rs : BitVec 5) (imm : BitVec 16) : EncodesRow.Statement (.lwl rt imm rs) :=
  EncodesRow.of_row ⟨.lwl, none, .I, 0x88000000#32, 0xFC000000#32, 0x88000000#32, 0xFC000000#32, 1⟩
    iFormRows iFormRows_subset (by decide) rfl rfl
    (fits_iWord (op' := 63#6) (a' := 0#5) (b' := 0#5) (i' := 0#16) (by decide) (by simp only [BitVec.and_zero]; rfl))

theorem EncodesRow.lw (rt rs : BitVec 5) (imm : BitVec 16) : EncodesRow.Statement (.lw rt imm rs) :=
  EncodesRow.of_row ⟨.lw, none, .I, 0x8C000000#32, 0xFC000000#32, 0x8C000000#32, 0xFC000000#32, 1⟩
    iFormRows iFormRows_subset (by decide) rfl rfl
    (fits_iWord (op' := 63#6) (a' := 0#5) (b' := 0#5) (i' := 0#16) (by decide) (by simp only [BitVec.and_zero]; rfl))

theorem EncodesRow.lbu (rt rs : BitVec 5) (imm : BitVec 16) : EncodesRow.Statement (.lbu rt imm rs) :=
  EncodesRow.of_row ⟨.lbu, none, .I, 0x90000000#32, 0xFC000000#32, 0x90000000#32, 0xFC000000#32, 1⟩
    iFormRows iFormRows_subset (by decide) rfl rfl
    (fits_iWord (op' := 63#6) (a' := 0#5) (b' := 0#5) (i' := 0#16) (by decide) (by simp only [BitVec.and_zero]; rfl))

theorem EncodesRow.lhu (rt rs : BitVec 5) (imm : BitVec 16) : EncodesRow.Statement (.lhu rt imm rs) :=
  EncodesRow.of_row ⟨.lhu, none, .I, 0x94000000#32, 0xFC000000#32, 0x94000000#32, 0xFC000000#32, 1⟩
    iFormRows iFormRows_subset (by decide) rfl rfl
    (fits_iWord (op' := 63#6) (a' := 0#5) (b' := 0#5) (i' := 0#16) (by decide) (by simp only [BitVec.and_zero]; rfl))

theorem EncodesRow.lwr (rt rs : BitVec 5) (imm : BitVec 16) : EncodesRow.Statement (.lwr rt imm rs) :=
  EncodesRow.of_row ⟨.lwr, none, .I, 0x98000000#32, 0xFC000000#32, 0x98000000#32, 0xFC000000#32, 1⟩
    iFormRows iFormRows_subset (by decide) rfl rfl
    (fits_iWord (op' := 63#6) (a' := 0#5) (b' := 0#5) (i' := 0#16) (by decide) (by simp only [BitVec.and_zero]; rfl))

theorem EncodesRow.lwu (rt rs : BitVec 5) (imm : BitVec 16) : EncodesRow.Statement (.lwu rt imm rs) :=
  EncodesRow.of_row ⟨.lwu, none, .I, 0x9C000000#32, 0xFC000000#32, 0x9C000000#32, 0xFC000000#32, 1⟩
    iFormRows iFormRows_subset (by decide) rfl rfl
    (fits_iWord (op' := 63#6) (a' := 0#5) (b' := 0#5) (i' := 0#16) (by decide) (by simp only [BitVec.and_zero]; rfl))

theorem EncodesRow.sb (rt rs : BitVec 5) (imm : BitVec 16) : EncodesRow.Statement (.sb rt imm rs) :=
  EncodesRow.of_row ⟨.sb, none, .I, 0xA0000000#32, 0xFC000000#32, 0xA0000000#32, 0xFC000000#32, 1⟩
    iFormRows iFormRows_subset (by decide) rfl rfl
    (fits_iWord (op' := 63#6) (a' := 0#5) (b' := 0#5) (i' := 0#16) (by decide) (by simp only [BitVec.and_zero]; rfl))

theorem EncodesRow.sh (rt rs : BitVec 5) (imm : BitVec 16) : EncodesRow.Statement (.sh rt imm rs) :=
  EncodesRow.of_row ⟨.sh, none, .I, 0xA4000000#32, 0xFC000000#32, 0xA4000000#32, 0xFC000000#32, 1⟩
    iFormRows iFormRows_subset (by decide) rfl rfl
    (fits_iWord (op' := 63#6) (a' := 0#5) (b' := 0#5) (i' := 0#16) (by decide) (by simp only [BitVec.and_zero]; rfl))

theorem EncodesRow.swl (rt rs : BitVec 5) (imm : BitVec 16) : EncodesRow.Statement (.swl rt imm rs) :=
  EncodesRow.of_row ⟨.swl, none, .I, 0xA8000000#32, 0xFC000000#32, 0xA8000000#32, 0xFC000000#32, 1⟩
    iFormRows iFormRows_subset (by decide) rfl rfl
    (fits_iWord (op' := 63#6) (a' := 0#5) (b' := 0#5) (i' := 0#16) (by decide) (by simp only [BitVec.and_zero]; rfl))

theorem EncodesRow.sw (rt rs : BitVec 5) (imm : BitVec 16) : EncodesRow.Statement (.sw rt imm rs) :=
  EncodesRow.of_row ⟨.sw, none, .I, 0xAC000000#32, 0xFC000000#32, 0xAC000000#32, 0xFC000000#32, 1⟩
    iFormRows iFormRows_subset (by decide) rfl rfl
    (fits_iWord (op' := 63#6) (a' := 0#5) (b' := 0#5) (i' := 0#16) (by decide) (by simp only [BitVec.and_zero]; rfl))

theorem EncodesRow.swr (rt rs : BitVec 5) (imm : BitVec 16) : EncodesRow.Statement (.swr rt imm rs) :=
  EncodesRow.of_row ⟨.swr, none, .I, 0xB8000000#32, 0xFC000000#32, 0xB8000000#32, 0xFC000000#32, 1⟩
    iFormRows iFormRows_subset (by decide) rfl rfl
    (fits_iWord (op' := 63#6) (a' := 0#5) (b' := 0#5) (i' := 0#16) (by decide) (by simp only [BitVec.and_zero]; rfl))

theorem EncodesRow.cache (op rs : BitVec 5) (imm : BitVec 16) : EncodesRow.Statement (.cache op imm rs) :=
  EncodesRow.of_row ⟨.cache, none, .I, 0xBC000000#32, 0xFC000000#32, 0xBC000000#32, 0xFC000000#32, 1⟩
    iFormRows iFormRows_subset (by decide) rfl rfl
    (fits_iWord (op' := 63#6) (a' := 0#5) (b' := 0#5) (i' := 0#16) (by decide) (by simp only [BitVec.and_zero]; rfl))

theorem EncodesRow.lwc1 (ft rs : BitVec 5) (imm : BitVec 16) : EncodesRow.Statement (.lwc1 ft imm rs) :=
  EncodesRow.of_row ⟨.lwc1, none, .I, 0xC4000000#32, 0xFC000000#32, 0xC4000000#32, 0xFC000000#32, 1⟩
    iFormRows iFormRows_subset (by decide) rfl rfl
    (fits_iWord (op' := 63#6) (a' := 0#5) (b' := 0#5) (i' := 0#16) (by decide) (by simp only [BitVec.and_zero]; rfl))

theorem EncodesRow.ldc1 (ft rs : BitVec 5) (imm : BitVec 16) : EncodesRow.Statement (.ldc1 ft imm rs) :=
  EncodesRow.of_row ⟨.ldc1, none, .I, 0xD4000000#32, 0xFC000000#32, 0xD4000000#32, 0xFC000000#32, 1⟩
    iFormRows iFormRows_subset (by decide) rfl rfl
    (fits_iWord (op' := 63#6) (a' := 0#5) (b' := 0#5) (i' := 0#16) (by decide) (by simp only [BitVec.and_zero]; rfl))

theorem EncodesRow.ld (rt rs : BitVec 5) (imm : BitVec 16) : EncodesRow.Statement (.ld rt imm rs) :=
  EncodesRow.of_row ⟨.ld, none, .I, 0xDC000000#32, 0xFC000000#32, 0xDC000000#32, 0xFC000000#32, 1⟩
    iFormRows iFormRows_subset (by decide) rfl rfl
    (fits_iWord (op' := 63#6) (a' := 0#5) (b' := 0#5) (i' := 0#16) (by decide) (by simp only [BitVec.and_zero]; rfl))

theorem EncodesRow.swc1 (ft rs : BitVec 5) (imm : BitVec 16) : EncodesRow.Statement (.swc1 ft imm rs) :=
  EncodesRow.of_row ⟨.swc1, none, .I, 0xE4000000#32, 0xFC000000#32, 0xE4000000#32, 0xFC000000#32, 1⟩
    iFormRows iFormRows_subset (by decide) rfl rfl
    (fits_iWord (op' := 63#6) (a' := 0#5) (b' := 0#5) (i' := 0#16) (by decide) (by simp only [BitVec.and_zero]; rfl))

theorem EncodesRow.sdc1 (ft rs : BitVec 5) (imm : BitVec 16) : EncodesRow.Statement (.sdc1 ft imm rs) :=
  EncodesRow.of_row ⟨.sdc1, none, .I, 0xF4000000#32, 0xFC000000#32, 0xF4000000#32, 0xFC000000#32, 1⟩
    iFormRows iFormRows_subset (by decide) rfl rfl
    (fits_iWord (op' := 63#6) (a' := 0#5) (b' := 0#5) (i' := 0#16) (by decide) (by simp only [BitVec.and_zero]; rfl))

theorem EncodesRow.bltz (rs : BitVec 5) (imm : BitVec 16) : EncodesRow.Statement (.bltz rs imm) :=
  EncodesRow.of_row ⟨.bltz, none, .I, 0x04000000#32, 0xFC1F0000#32, 0x04000000#32, 0xFC1F0000#32, 1⟩
    regimmRows regimmRows_subset (by decide) rfl rfl
    (fits_iWord (op' := 63#6) (a' := 0#5) (b' := 31#5) (i' := 0#16) (by decide) (by simp only [BitVec.and_zero]; rfl))

theorem EncodesRow.bgez (rs : BitVec 5) (imm : BitVec 16) : EncodesRow.Statement (.bgez rs imm) :=
  EncodesRow.of_row ⟨.bgez, none, .I, 0x04010000#32, 0xFC1F0000#32, 0x04010000#32, 0xFC1F0000#32, 1⟩
    regimmRows regimmRows_subset (by decide) rfl rfl
    (fits_iWord (op' := 63#6) (a' := 0#5) (b' := 31#5) (i' := 0#16) (by decide) (by simp only [BitVec.and_zero]; rfl))

theorem EncodesRow.bltzl (rs : BitVec 5) (imm : BitVec 16) : EncodesRow.Statement (.bltzl rs imm) :=
  EncodesRow.of_row ⟨.bltzl, none, .I, 0x04020000#32, 0xFC1F0000#32, 0x04020000#32, 0xFC1F0000#32, 1⟩
    regimmRows regimmRows_subset (by decide) rfl rfl
    (fits_iWord (op' := 63#6) (a' := 0#5) (b' := 31#5) (i' := 0#16) (by decide) (by simp only [BitVec.and_zero]; rfl))

theorem EncodesRow.bgezl (rs : BitVec 5) (imm : BitVec 16) : EncodesRow.Statement (.bgezl rs imm) :=
  EncodesRow.of_row ⟨.bgezl, none, .I, 0x04030000#32, 0xFC1F0000#32, 0x04030000#32, 0xFC1F0000#32, 1⟩
    regimmRows regimmRows_subset (by decide) rfl rfl
    (fits_iWord (op' := 63#6) (a' := 0#5) (b' := 31#5) (i' := 0#16) (by decide) (by simp only [BitVec.and_zero]; rfl))

theorem EncodesRow.tgei (rs : BitVec 5) (imm : BitVec 16) : EncodesRow.Statement (.tgei rs imm) :=
  EncodesRow.of_row ⟨.tgei, none, .I, 0x04080000#32, 0xFC1F0000#32, 0x04080000#32, 0xFC1F0000#32, 1⟩
    regimmRows regimmRows_subset (by decide) rfl rfl
    (fits_iWord (op' := 63#6) (a' := 0#5) (b' := 31#5) (i' := 0#16) (by decide) (by simp only [BitVec.and_zero]; rfl))

theorem EncodesRow.tgeiu (rs : BitVec 5) (imm : BitVec 16) : EncodesRow.Statement (.tgeiu rs imm) :=
  EncodesRow.of_row ⟨.tgeiu, none, .I, 0x04090000#32, 0xFC1F0000#32, 0x04090000#32, 0xFC1F0000#32, 1⟩
    regimmRows regimmRows_subset (by decide) rfl rfl
    (fits_iWord (op' := 63#6) (a' := 0#5) (b' := 31#5) (i' := 0#16) (by decide) (by simp only [BitVec.and_zero]; rfl))

theorem EncodesRow.tlti (rs : BitVec 5) (imm : BitVec 16) : EncodesRow.Statement (.tlti rs imm) :=
  EncodesRow.of_row ⟨.tlti, none, .I, 0x040A0000#32, 0xFC1F0000#32, 0x040A0000#32, 0xFC1F0000#32, 1⟩
    regimmRows regimmRows_subset (by decide) rfl rfl
    (fits_iWord (op' := 63#6) (a' := 0#5) (b' := 31#5) (i' := 0#16) (by decide) (by simp only [BitVec.and_zero]; rfl))

theorem EncodesRow.tltiu (rs : BitVec 5) (imm : BitVec 16) : EncodesRow.Statement (.tltiu rs imm) :=
  EncodesRow.of_row ⟨.tltiu, none, .I, 0x040B0000#32, 0xFC1F0000#32, 0x040B0000#32, 0xFC1F0000#32, 1⟩
    regimmRows regimmRows_subset (by decide) rfl rfl
    (fits_iWord (op' := 63#6) (a' := 0#5) (b' := 31#5) (i' := 0#16) (by decide) (by simp only [BitVec.and_zero]; rfl))

theorem EncodesRow.teqi (rs : BitVec 5) (imm : BitVec 16) : EncodesRow.Statement (.teqi rs imm) :=
  EncodesRow.of_row ⟨.teqi, none, .I, 0x040C0000#32, 0xFC1F0000#32, 0x040C0000#32, 0xFC1F0000#32, 1⟩
    regimmRows regimmRows_subset (by decide) rfl rfl
    (fits_iWord (op' := 63#6) (a' := 0#5) (b' := 31#5) (i' := 0#16) (by decide) (by simp only [BitVec.and_zero]; rfl))

theorem EncodesRow.tnei (rs : BitVec 5) (imm : BitVec 16) : EncodesRow.Statement (.tnei rs imm) :=
  EncodesRow.of_row ⟨.tnei, none, .I, 0x040E0000#32, 0xFC1F0000#32, 0x040E0000#32, 0xFC1F0000#32, 1⟩
    regimmRows regimmRows_subset (by decide) rfl rfl
    (fits_iWord (op' := 63#6) (a' := 0#5) (b' := 31#5) (i' := 0#16) (by decide) (by simp only [BitVec.and_zero]; rfl))

theorem EncodesRow.bltzal (rs : BitVec 5) (imm : BitVec 16) : EncodesRow.Statement (.bltzal rs imm) :=
  EncodesRow.of_row ⟨.bltzal, none, .I, 0x04100000#32, 0xFC1F0000#32, 0x04100000#32, 0xFC1F0000#32, 1⟩
    regimmRows regimmRows_subset (by decide) rfl rfl
    (fits_iWord (op' := 63#6) (a' := 0#5) (b' := 31#5) (i' := 0#16) (by decide) (by simp only [BitVec.and_zero]; rfl))

theorem EncodesRow.bgezal (rs : BitVec 5) (imm : BitVec 16) : EncodesRow.Statement (.bgezal rs imm) :=
  EncodesRow.of_row ⟨.bgezal, none, .I, 0x04110000#32, 0xFC1F0000#32, 0x04110000#32, 0xFC1F0000#32, 1⟩
    regimmRows regimmRows_subset (by decide) rfl rfl
    (fits_iWord (op' := 63#6) (a' := 0#5) (b' := 31#5) (i' := 0#16) (by decide) (by simp only [BitVec.and_zero]; rfl))

theorem EncodesRow.bltzall (rs : BitVec 5) (imm : BitVec 16) : EncodesRow.Statement (.bltzall rs imm) :=
  EncodesRow.of_row ⟨.bltzall, none, .I, 0x04120000#32, 0xFC1F0000#32, 0x04120000#32, 0xFC1F0000#32, 1⟩
    regimmRows regimmRows_subset (by decide) rfl rfl
    (fits_iWord (op' := 63#6) (a' := 0#5) (b' := 31#5) (i' := 0#16) (by decide) (by simp only [BitVec.and_zero]; rfl))

theorem EncodesRow.bgezall (rs : BitVec 5) (imm : BitVec 16) : EncodesRow.Statement (.bgezall rs imm) :=
  EncodesRow.of_row ⟨.bgezall, none, .I, 0x04130000#32, 0xFC1F0000#32, 0x04130000#32, 0xFC1F0000#32, 1⟩
    regimmRows regimmRows_subset (by decide) rfl rfl
    (fits_iWord (op' := 63#6) (a' := 0#5) (b' := 31#5) (i' := 0#16) (by decide) (by simp only [BitVec.and_zero]; rfl))

theorem EncodesRow.bc0f (x : BitVec 3) (imm : BitVec 16) : EncodesRow.Statement (.bc0f x imm) :=
  EncodesRow.of_row ⟨.bc0f, none, .I, 0x41000000#32, 0xFFE30000#32, 0x41000000#32, 0xFFE30000#32, 0⟩
    copBranchRows copBranchRows_subset (by decide) rfl rfl
    (fits_iWord (op' := 63#6) (a' := 31#5) (b' := (0#3 ++ 3#2)) (i' := 0#16) (by decide) (by simp only [select_and, BitVec.and_zero]; rfl))

theorem EncodesRow.bc0t (x : BitVec 3) (imm : BitVec 16) : EncodesRow.Statement (.bc0t x imm) :=
  EncodesRow.of_row ⟨.bc0t, none, .I, 0x41010000#32, 0xFFE30000#32, 0x41010000#32, 0xFFE30000#32, 0⟩
    copBranchRows copBranchRows_subset (by decide) rfl rfl
    (fits_iWord (op' := 63#6) (a' := 31#5) (b' := (0#3 ++ 3#2)) (i' := 0#16) (by decide) (by simp only [select_and, BitVec.and_zero]; rfl))

theorem EncodesRow.bc0fl (x : BitVec 3) (imm : BitVec 16) : EncodesRow.Statement (.bc0fl x imm) :=
  EncodesRow.of_row ⟨.bc0fl, none, .I, 0x41020000#32, 0xFFE30000#32, 0x41020000#32, 0xFFE30000#32, 0⟩
    copBranchRows copBranchRows_subset (by decide) rfl rfl
    (fits_iWord (op' := 63#6) (a' := 31#5) (b' := (0#3 ++ 3#2)) (i' := 0#16) (by decide) (by simp only [select_and, BitVec.and_zero]; rfl))

theorem EncodesRow.bc0tl (x : BitVec 3) (imm : BitVec 16) : EncodesRow.Statement (.bc0tl x imm) :=
  EncodesRow.of_row ⟨.bc0tl, none, .I, 0x41030000#32, 0xFFE30000#32, 0x41030000#32, 0xFFE30000#32, 0⟩
    copBranchRows copBranchRows_subset (by decide) rfl rfl
    (fits_iWord (op' := 63#6) (a' := 31#5) (b' := (0#3 ++ 3#2)) (i' := 0#16) (by decide) (by simp only [select_and, BitVec.and_zero]; rfl))

theorem EncodesRow.bc1f (x : BitVec 3) (imm : BitVec 16) : EncodesRow.Statement (.bc1f x imm) :=
  EncodesRow.of_row ⟨.bc1f, none, .I, 0x45000000#32, 0xFFE30000#32, 0x45000000#32, 0xFFE30000#32, 0⟩
    copBranchRows copBranchRows_subset (by decide) rfl rfl
    (fits_iWord (op' := 63#6) (a' := 31#5) (b' := (0#3 ++ 3#2)) (i' := 0#16) (by decide) (by simp only [select_and, BitVec.and_zero]; rfl))

theorem EncodesRow.bc1t (x : BitVec 3) (imm : BitVec 16) : EncodesRow.Statement (.bc1t x imm) :=
  EncodesRow.of_row ⟨.bc1t, none, .I, 0x45010000#32, 0xFFE30000#32, 0x45010000#32, 0xFFE30000#32, 0⟩
    copBranchRows copBranchRows_subset (by decide) rfl rfl
    (fits_iWord (op' := 63#6) (a' := 31#5) (b' := (0#3 ++ 3#2)) (i' := 0#16) (by decide) (by simp only [select_and, BitVec.and_zero]; rfl))

theorem EncodesRow.bc1fl (x : BitVec 3) (imm : BitVec 16) : EncodesRow.Statement (.bc1fl x imm) :=
  EncodesRow.of_row ⟨.bc1fl, none, .I, 0x45020000#32, 0xFFE30000#32, 0x45020000#32, 0xFFE30000#32, 0⟩
    copBranchRows copBranchRows_subset (by decide) rfl rfl
    (fits_iWord (op' := 63#6) (a' := 31#5) (b' := (0#3 ++ 3#2)) (i' := 0#16) (by decide) (by simp only [select_and, BitVec.and_zero]; rfl))

theorem EncodesRow.bc1tl (x : BitVec 3) (imm : BitVec 16) : EncodesRow.Statement (.bc1tl x imm) :=
  EncodesRow.of_row ⟨.bc1tl, none, .I, 0x45030000#32, 0xFFE30000#32, 0x45030000#32, 0xFFE30000#32, 0⟩
    copBranchRows copBranchRows_subset (by decide) rfl rfl
    (fits_iWord (op' := 63#6) (a' := 31#5) (b' := (0#3 ++ 3#2)) (i' := 0#16) (by decide) (by simp only [select_and, BitVec.and_zero]; rfl))

theorem EncodesRow.bc2f (x : BitVec 3) (imm : BitVec 16) : EncodesRow.Statement (.bc2f x imm) :=
  EncodesRow.of_row ⟨.bc2f, none, .I, 0x49000000#32, 0xFFE30000#32, 0x49000000#32, 0xFFE30000#32, 0⟩
    copBranchRows copBranchRows_subset (by decide) rfl rfl
    (fits_iWord (op' := 63#6) (a' := 31#5) (b' := (0#3 ++ 3#2)) (i' := 0#16) (by decide) (by simp only [select_and, BitVec.and_zero]; rfl))

theorem EncodesRow.bc2t (x : BitVec 3) (imm : BitVec 16) : EncodesRow.Statement (.bc2t x imm) :=
  EncodesRow.of_row ⟨.bc2t, none, .I, 0x49010000#32, 0xFFE30000#32, 0x49010000#32, 0xFFE30000#32, 0⟩
    copBranchRows copBranchRows_subset (by decide) rfl rfl
    (fits_iWord (op' := 63#6) (a' := 31#5) (b' := (0#3 ++ 3#2)) (i' := 0#16) (by decide) (by simp only [select_and, BitVec.and_zero]; rfl))

theorem EncodesRow.bc2fl (x : BitVec 3) (imm : BitVec 16) : EncodesRow.Statement (.bc2fl x imm) :=
  EncodesRow.of_row ⟨.bc2fl, none, .I, 0x49020000#32, 0xFFE30000#32, 0x49020000#32, 0xFFE30000#32, 0⟩
    copBranchRows copBranchRows_subset (by decide) rfl rfl
    (fits_iWord (op' := 63#6) (a' := 31#5) (b' := (0#3 ++ 3#2)) (i' := 0#16) (by decide) (by simp only [select_and, BitVec.and_zero]; rfl))

theorem EncodesRow.bc2tl (x : BitVec 3) (imm : BitVec 16) : EncodesRow.Statement (.bc2tl x imm) :=
  EncodesRow.of_row ⟨.bc2tl, none, .I, 0x49030000#32, 0xFFE30000#32, 0x49030000#32, 0xFFE30000#32, 0⟩
    copBranchRows copBranchRows_subset (by decide) rfl rfl
    (fits_iWord (op' := 63#6) (a' := 31#5) (b' := (0#3 ++ 3#2)) (i' := 0#16) (by decide) (by simp only [select_and, BitVec.and_zero]; rfl))

theorem EncodesRow.addFmt (m : BitVec 4) (fd fs ft : BitVec 5) : EncodesRow.Statement (.addFmt m fd fs ft) :=
  EncodesRow.of_row ⟨.addFmt, none, .I, 0x46000000#32, 0xFE00003F#32, 0x46000000#32, 0xFE00003F#32, 1⟩
    copFloatRows copFloatRows_subset (by decide) rfl rfl
    (fits_rWord (op' := 63#6) (a' := (1#1 ++ 0#4)) (b' := 0#5) (c' := 0#5) (d' := 0#5) (f' := 63#6) (by decide) (by simp only [tag_and, BitVec.and_zero]; rfl))

theorem EncodesRow.subFmt (m : BitVec 4) (fd fs ft : BitVec 5) : EncodesRow.Statement (.subFmt m fd fs ft) :=
  EncodesRow.of_row ⟨.subFmt, none, .I, 0x46000001#32, 0xFE00003F#32, 0x46000001#32, 0xFE00003F#32, 1⟩
    copFloatRows copFloatRows_subset (by decide) rfl rfl
    (fits_rWord (op' := 63#6) (a' := (1#1 ++ 0#4)) (b' := 0#5) (c' := 0#5) (d' := 0#5) (f' := 63#6) (by decide) (by simp only [tag_and, BitVec.and_zero]; rfl))

theorem EncodesRow.mulFmt (m : BitVec 4) (fd fs ft : BitVec 5) : EncodesRow.Statement (.mulFmt m fd fs ft) :=
  EncodesRow.of_row ⟨.mulFmt, none, .I, 0x46000002#32, 0xFE00003F#32, 0x46000002#32, 0xFE00003F#32, 1⟩
    copFloatRows copFloatRows_subset (by decide) rfl rfl
    (fits_rWord (op' := 63#6) (a' := (1#1 ++ 0#4)) (b' := 0#5) (c' := 0#5) (d' := 0#5) (f' := 63#6) (by decide) (by simp only [tag_and, BitVec.and_zero]; rfl))

theorem EncodesRow.divFmt (m : BitVec 4) (fd fs ft : BitVec 5) : EncodesRow.Statement (.divFmt m fd fs ft) :=
  EncodesRow.of_row ⟨.divFmt, none, .I, 0x46000003#32, 0xFE00003F#32, 0x46000003#32, 0xFE00003F#32, 1⟩
    copFloatRows copFloatRows_subset (by decide) rfl rfl
    (fits_rWord (op' := 63#6) (a' := (1#1 ++ 0#4)) (b' := 0#5) (c' := 0#5) (d' := 0#5) (f' := 63#6) (by decide) (by simp only [tag_and, BitVec.and_zero]; rfl))

theorem EncodesRow.sqrtFmt (m : BitVec 4) (fd fs : BitVec 5) : EncodesRow.Statement (.sqrtFmt m fd fs) :=
  EncodesRow.of_row ⟨.sqrtFmt, none, .I, 0x46000004#32, 0xFE1F003F#32, 0x46000004#32, 0xFE00003F#32, 1⟩
    copFloatRows copFloatRows_subset (by decide) rfl rfl
    (fits_rWord (op' := 63#6) (a' := (1#1 ++ 0#4)) (b' := 31#5) (c' := 0#5) (d' := 0#5) (f' := 63#6) (by decide) (by simp only [tag_and, BitVec.and_zero]; rfl))

theorem EncodesRow.negFmt (m : BitVec 4) (fd fs : BitVec 5) : EncodesRow.Statement (.negFmt m fd fs) :=
  EncodesRow.of_row ⟨.negFmt, none, .I, 0x46000007#32, 0xFE1F003F#32, 0x46000007#32, 0xFE00003F#32, 1⟩
    copFloatRows copFloatRows_subset (by decide) rfl rfl
    (fits_rWord (op' := 63#6) (a' := (1#1 ++ 0#4)) (b' := 31#5) (c' := 0#5) (d' := 0#5) (f' := 63#6) (by decide) (by simp only [tag_and, BitVec.and_zero]; rfl))

theorem EncodesRow.roundWFmt (m : BitVec 4) (fd fs : BitVec 5) : EncodesRow.Statement (.roundWFmt m fd fs) :=
  EncodesRow.of_row ⟨.roundWFmt, none, .I, 0x4600000C#32, 0xFE1F003F#32, 0x4600000C#32, 0xFE00003F#32, 1⟩
    copFloatRows copFloatRows_subset (by decide) rfl rfl
    (fits_rWord (op' := 63#6) (a' := (1#1 ++ 0#4)) (b' := 31#5) (c' := 0#5) (d' := 0#5) (f' := 63#6) (by decide) (by simp only [tag_and, BitVec.and_zero]; rfl))

theorem EncodesRow.truncWFmt (m : BitVec 4) (fd fs : BitVec 5) : EncodesRow.Statement (.truncWFmt m fd fs) :=
  EncodesRow.of_row ⟨.truncWFmt, none, .I, 0x4600000D#32, 0xFE1F003F#32, 0x4600000D#32, 0xFE00003F#32, 1⟩
    copFloatRows copFloatRows_subset (by decide) rfl rfl
    (fits_rWord (op' := 63#6) (a' := (1#1 ++ 0#4)) (b' := 31#5) (c' := 0#5) (d' := 0#5) (f' := 63#6) (by decide) (by simp only [tag_and, BitVec.and_zero]; rfl))

theorem EncodesRow.ceilWFmt (m : BitVec 4) (fd fs : BitVec 5) : EncodesRow.Statement (.ceilWFmt m fd fs) :=
  EncodesRow.of_row ⟨.ceilWFmt, none, .I, 0x4600000E#32, 0xFE1F003F#32, 0x4600000E#32, 0xFE00003F#32, 1⟩
    copFloatRows copFloatRows_subset (by decide) rfl rfl
    (fits_rWord (op' := 63#6) (a' := (1#1 ++ 0#4)) (b' := 31#5) (c' := 0#5) (d' := 0#5) (f' := 63#6) (by decide) (by simp only [tag_and, BitVec.and_zero]; rfl))

theorem EncodesRow.floorWFmt (m : BitVec 4) (fd fs : BitVec 5) : EncodesRow.Statement (.floorWFmt m fd fs) :=
  EncodesRow.of_row ⟨.floorWFmt, none, .I, 0x4600000F#32, 0xFE1F003F#32, 0x4600000F#32, 0xFE00003F#32, 1⟩
    copFloatRows copFloatRows_subset (by decide) rfl rfl
    (fits_rWord (op' := 63#6) (a' := (1#1 ++ 0#4)) (b' := 31#5) (c' := 0#5) (d' := 0#5) (f' := 63#6) (by decide) (by simp only [tag_and, BitVec.and_zero]; rfl))

theorem EncodesRow.cvtSFmt (m : BitVec 4) (fd fs : BitVec 5) : EncodesRow.Statement (.cvtSFmt m fd fs) :=
  EncodesRow.of_row ⟨.cvtSFmt, none, .I, 0x46000020#32, 0xFE1F003F#32, 0x46000020#32, 0xFE00003F#32, 1⟩
    copFloatRows copFloatRows_subset (by decide) rfl rfl
    (fits_rWord (op' := 63#6) (a' := (1#1 ++ 0#4)) (b' := 31#5) (c' := 0#5) (d' := 0#5) (f' := 63#6) (by decide) (by simp only [tag_and, BitVec.and_zero]; rfl))

theorem EncodesRow.cvtDFmt (m : BitVec 4) (fd fs : BitVec 5) : EncodesRow.Statement (.cvtDFmt m fd fs) :=
  EncodesRow.of_row ⟨.cvtDFmt, none, .I, 0x46000021#32, 0xFE1F003F#32, 0x46000021#32, 0xFE00003F#32, 1⟩
    copFloatRows copFloatRows_subset (by decide) rfl rfl
    (fits_rWord (op' := 63#6) (a' := (1#1 ++ 0#4)) (b' := 31#5) (c' := 0#5) (d' := 0#5) (f' := 63#6) (by decide) (by simp only [tag_and, BitVec.and_zero]; rfl))

theorem EncodesRow.cvtWFmt (m : BitVec 4) (fd fs : BitVec 5) : EncodesRow.Statement (.cvtWFmt m fd fs) :=
  EncodesRow.of_row ⟨.cvtWFmt, none, .I, 0x46000024#32, 0xFE1F003F#32, 0x46000024#32, 0xFE00003F#32, 1⟩
    copFloatRows copFloatRows_subset (by decide) rfl rfl
    (fits_rWord (op' := 63#6) (a' := (1#1 ++ 0#4)) (b' := 31#5) (c' := 0#5) (d' := 0#5) (f' := 63#6) (by decide) (by simp only [tag_and, BitVec.and_zero]; rfl))

theorem EncodesRow.cCondFmt (m cond : BitVec 4) (fs ft : BitVec 5) (x : BitVec 3) : EncodesRow.Statement (.cCondFmt m cond fs ft x) :=
  EncodesRow.of_row ⟨.cCondFmt, none, .I, 0x46000030#32, 0xFE0000F0#32, 0x46000030#32, 0xFE0000F0#32, 1⟩
    copFloatRows copFloatRows_subset (by decide) rfl rfl
    (fits_iWord (op' := 63#6) (a' := (1#1 ++ 0#4)) (b' := 0#5) (i' := (0#5 ++ 0#3 ++ 15#4 ++ 0#4)) (by decide) (by simp only [tag_and, window_and, BitVec.and_zero]; rfl))

theorem EncodesRow.mfc0 (rt rd : BitVec 5) : EncodesRow.Statement (.mfc0 rt rd) :=
  EncodesRow.of_row ⟨.mfc0, none, .I, 0x40000000#32, 0xFFE007FF#32, 0x40000000#32, 0xFFE00000#32, 1⟩
    copMoveRows copMoveRows_subset (by decide) rfl rfl
    (fits_iWord (op' := 63#6) (a' := 31#5) (b' := 0#5) (i' := (0#5 ++ 2047#11)) (by decide) (by simp only [move_and, BitVec.and_zero]; rfl))

theorem EncodesRow.dmfc0 (rt rd : BitVec 5) : EncodesRow.Statement (.dmfc0 rt rd) :=
  EncodesRow.of_row ⟨.dmfc0, none, .I, 0x40200000#32, 0xFFE007FF#32, 0x40200000#32, 0xFFE00000#32, 1⟩
    copMoveRows copMoveRows_subset (by decide) rfl rfl
    (fits_iWord (op' := 63#6) (a' := 31#5) (b' := 0#5) (i' := (0#5 ++ 2047#11)) (by decide) (by simp only [move_and, BitVec.and_zero]; rfl))

theorem EncodesRow.cfc0 (rt rd : BitVec 5) : EncodesRow.Statement (.cfc0 rt rd) :=
  EncodesRow.of_row ⟨.cfc0, none, .I, 0x40400000#32, 0xFFE007FF#32, 0x40400000#32, 0xFFE00000#32, 1⟩
    copMoveRows copMoveRows_subset (by decide) rfl rfl
    (fits_iWord (op' := 63#6) (a' := 31#5) (b' := 0#5) (i' := (0#5 ++ 2047#11)) (by decide) (by simp only [move_and, BitVec.and_zero]; rfl))

theorem EncodesRow.mtc0 (rt rd : BitVec 5) : EncodesRow.Statement (.mtc0 rt rd) :=
  EncodesRow.of_row ⟨.mtc0, none, .I, 0x40800000#32, 0xFFE007FF#32, 0x40800000#32, 0xFFE00000#32, 1⟩
    copMoveRows copMoveRows_subset (by decide) rfl rfl
    (fits_iWord (op' := 63#6) (a' := 31#5) (b' := 0#5) (i' := (0#5 ++ 2047#11)) (by decide) (by simp only [move_and, BitVec.and_zero]; rfl))

theorem EncodesRow.dmtc0 (rt rd : BitVec 5) : EncodesRow.Statement (.dmtc0 rt rd) :=
  EncodesRow.of_row ⟨.dmtc0, none, .I, 0x40A00000#32, 0xFFE007FF#32, 0x40A00000#32, 0xFFE00000#32, 1⟩
    copMoveRows copMoveRows_subset (by decide) rfl rfl
    (fits_iWord (op' := 63#6) (a' := 31#5) (b' := 0#5) (i' := (0#5 ++ 2047#11)) (by decide) (by simp only [move_and, BitVec.and_zero]; rfl))

theorem EncodesRow.ctc0 (rt rd : BitVec 5) : EncodesRow.Statement (.ctc0 rt rd) :=
  EncodesRow.of_row ⟨.ctc0, none, .I, 0x40C00000#32, 0xFFE007FF#32, 0x40C00000#32, 0xFFE00000#32, 1⟩
    copMoveRows copMoveRows_subset (by decide) rfl rfl
    (fits_iWord (op' := 63#6) (a' := 31#5) (b' := 0#5) (i' := (0#5 ++ 2047#11)) (by decide) (by simp only [move_and, BitVec.and_zero]; rfl))

theorem EncodesRow.mfc1 (rt rd : BitVec 5) : EncodesRow.Statement (.mfc1 rt rd) :=
  EncodesRow.of_row ⟨.mfc1, none, .I, 0x44000000#32, 0xFFE007FF#32, 0x44000000#32, 0xFFE00000#32, 1⟩
    copMoveRows copMoveRows_subset (by decide) rfl rfl
    (fits_iWord (op' := 63#6) (a' := 31#5) (b' := 0#5) (i' := (0#5 ++ 2047#11)) (by decide) (by simp only [move_and, BitVec.and_zero]; rfl))

theorem EncodesRow.dmfc1 (rt rd : BitVec 5) : EncodesRow.Statement (.dmfc1 rt rd) :=
  EncodesRow.of_row ⟨.dmfc1, none, .I, 0x44200000#32, 0xFFE007FF#32, 0x44200000#32, 0xFFE00000#32, 1⟩
    copMoveRows copMoveRows_subset (by decide) rfl rfl
    (fits_iWord (op' := 63#6) (a' := 31#5) (b' := 0#5) (i' := (0#5 ++ 2047#11)) (by decide) (by simp only [move_and, BitVec.and_zero]; rfl))

theorem EncodesRow.cfc1 (rt rd : BitVec 5) : EncodesRow.Statement (.cfc1 rt rd) :=
  EncodesRow.of_row ⟨.cfc1, none, .I, 0x44400000#32, 0xFFE007FF#32, 0x44400000#32, 0xFFE00000#32, 1⟩
    copMoveRows copMoveRows_subset (by decide) rfl rfl
    (fits_iWord (op' := 63#6) (a' := 31#5) (b' := 0#5) (i' := (0#5 ++ 2047#11)) (by decide) (by simp only [move_and, BitVec.and_zero]; rfl))

theorem EncodesRow.mtc1 (rt rd : BitVec 5) : EncodesRow.Statement (.mtc1 rt rd) :=
  EncodesRow.of_row ⟨.mtc1, none, .I, 0x44800000#32, 0xFFE007FF#32, 0x44800000#32, 0xFFE00000#32, 1⟩
    copMoveRows copMoveRows_subset (by decide) rfl rfl
    (fits_iWord (op' := 63#6) (a' := 31#5) (b' := 0#5) (i' := (0#5 ++ 2047#11)) (by decide) (by simp only [move_and, BitVec.and_zero]; rfl))

theorem EncodesRow.dmtc1 (rt rd : BitVec 5) : EncodesRow.Statement (.dmtc1 rt rd) :=
  EncodesRow.of_row ⟨.dmtc1, none, .I, 0x44A00000#32, 0xFFE007FF#32, 0x44A00000#32, 0xFFE00000#32, 1⟩
    copMoveRows copMoveRows_subset (by decide) rfl rfl
    (fits_iWord (op' := 63#6) (a' := 31#5) (b' := 0#5) (i' := (0#5 ++ 2047#11)) (by decide) (by simp only [move_and, BitVec.and_zero]; rfl))

theorem EncodesRow.ctc1 (rt rd : BitVec 5) : EncodesRow.Statement (.ctc1 rt rd) :=
  EncodesRow.of_row ⟨.ctc1, none, .I, 0x44C00000#32, 0xFFE007FF#32, 0x44C00000#32, 0xFFE00000#32, 1⟩
    copMoveRows copMoveRows_subset (by decide) rfl rfl
    (fits_iWord (op' := 63#6) (a' := 31#5) (b' := 0#5) (i' := (0#5 ++ 2047#11)) (by decide) (by simp only [move_and, BitVec.and_zero]; rfl))

theorem EncodesRow.mfc2 (rt rd : BitVec 5) : EncodesRow.Statement (.mfc2 rt rd) :=
  EncodesRow.of_row ⟨.mfc2, none, .I, 0x48000000#32, 0xFFE007FF#32, 0x48000000#32, 0xFFE00000#32, 1⟩
    copMoveRows copMoveRows_subset (by decide) rfl rfl
    (fits_iWord (op' := 63#6) (a' := 31#5) (b' := 0#5) (i' := (0#5 ++ 2047#11)) (by decide) (by simp only [move_and, BitVec.and_zero]; rfl))

theorem EncodesRow.dmfc2 (rt rd : BitVec 5) : EncodesRow.Statement (.dmfc2 rt rd) :=
  EncodesRow.of_row ⟨.dmfc2, none, .I, 0x48200000#32, 0xFFE007FF#32, 0x48200000#32, 0xFFE00000#32, 1⟩
    copMoveRows copMoveRows_subset (by decide) rfl rfl
    (fits_iWord (op' := 63#6) (a' := 31#5) (b' := 0#5) (i' := (0#5 ++ 2047#11)) (by decide) (by simp only [move_and, BitVec.and_zero]; rfl))

theorem EncodesRow.cfc2 (rt rd : BitVec 5) : EncodesRow.Statement (.cfc2 rt rd) :=
  EncodesRow.of_row ⟨.cfc2, none, .I, 0x48400000#32, 0xFFE007FF#32, 0x48400000#32, 0xFFE00000#32, 1⟩
    copMoveRows copMoveRows_subset (by decide) rfl rfl
    (fits_iWord (op' := 63#6) (a' := 31#5) (b' := 0#5) (i' := (0#5 ++ 2047#11)) (by decide) (by simp only [move_and, BitVec.and_zero]; rfl))

theorem EncodesRow.mtc2 (rt rd : BitVec 5) : EncodesRow.Statement (.mtc2 rt rd) :=
  EncodesRow.of_row ⟨.mtc2, none, .I, 0x48800000#32, 0xFFE007FF#32, 0x48800000#32, 0xFFE00000#32, 1⟩
    copMoveRows copMoveRows_subset (by decide) rfl rfl
    (fits_iWord (op' := 63#6) (a' := 31#5) (b' := 0#5) (i' := (0#5 ++ 2047#11)) (by decide) (by simp only [move_and, BitVec.and_zero]; rfl))

theorem EncodesRow.dmtc2 (rt rd : BitVec 5) : EncodesRow.Statement (.dmtc2 rt rd) :=
  EncodesRow.of_row ⟨.dmtc2, none, .I, 0x48A00000#32, 0xFFE007FF#32, 0x48A00000#32, 0xFFE00000#32, 1⟩
    copMoveRows copMoveRows_subset (by decide) rfl rfl
    (fits_iWord (op' := 63#6) (a' := 31#5) (b' := 0#5) (i' := (0#5 ++ 2047#11)) (by decide) (by simp only [move_and, BitVec.and_zero]; rfl))

theorem EncodesRow.ctc2 (rt rd : BitVec 5) : EncodesRow.Statement (.ctc2 rt rd) :=
  EncodesRow.of_row ⟨.ctc2, none, .I, 0x48C00000#32, 0xFFE007FF#32, 0x48C00000#32, 0xFFE00000#32, 1⟩
    copMoveRows copMoveRows_subset (by decide) rfl rfl
    (fits_iWord (op' := 63#6) (a' := 31#5) (b' := 0#5) (i' := (0#5 ++ 2047#11)) (by decide) (by simp only [move_and, BitVec.and_zero]; rfl))

theorem EncodesRow.j (target : BitVec 26) : EncodesRow.Statement (.j target) :=
  EncodesRow.of_row ⟨.j, none, .J, 0x08000000#32, 0xFC000000#32, 0x08000000#32, 0xFC000000#32, 1⟩
    jFormRows jFormRows_subset (by decide) rfl rfl
    (fits_jWord (op' := 63#6) (t' := 0#26) (by decide) (by simp only [BitVec.and_zero]; rfl))

theorem EncodesRow.jal (target : BitVec 26) : EncodesRow.Statement (.jal target) :=
  EncodesRow.of_row ⟨.jal, none, .J, 0x0C000000#32, 0xFC000000#32, 0x0C000000#32, 0xFC000000#32, 1⟩
    jFormRows jFormRows_subset (by decide) rfl rfl
    (fits_jWord (op' := 63#6) (t' := 0#26) (by decide) (by simp only [BitVec.and_zero]; rfl))

end Sys2Proof.Laws
end

