-- ==== Sys2Proof/Laws/Profile.lean ====
section
/-! SUPPORT. What the decoders over a profile can answer: one inversion lemma for each of the shared operations of
`Machine/Profile.lean`. -/

namespace Sys2Proof.Machine

@[simp] theorem patternBroken_nil (w : Word32) : patternBroken [] w = false := rfl

@[simp] theorem copPatternBroken_nil (w : Word32) : copPatternBroken [] w = false := rfl

/-- A pattern is kept exactly when each of its fields is zero (R96). -/
theorem patternBroken_eq_false_iff (zero : List ZeroField) (w : Word32) :
    patternBroken zero w = false ↔ ∀ f ∈ zero, f.value w = 0#5 := by
  simp [patternBroken]

/-- A coprocessor entry's pattern is kept exactly when each of its fields is zero (R96). -/
theorem copPatternBroken_eq_false_iff (zero : List CopZeroField) (w : Word32) :
    copPatternBroken zero w = false ↔ ∀ f ∈ zero, f.isZero w = true := by
  simp [copPatternBroken]

/-- What decides a coprocessor word: the sentinel selects a branch, otherwise step (b) or the move set of the id. -/
theorem Profile.copMatch_cases {T : Profile} {z : CopId} {w : Word32} {step : CopStep} {e : CopEntry}
    (h : T.copMatch z w = some (step, e)) :
    (step = .branch ∧ rsOf w = T.branchSentinel ∧ e = (T.branchTable.get z).get (branchSelectOf w)) ∨
    (step = .floating ∧ rsOf w ≠ T.branchSentinel ∧ T.floatGate z w = true ∧ T.floatMatch w = some e) ∨
    (step = .move ∧ rsOf w ≠ T.branchSentinel ∧ (T.moveTable.get z).lookup (rsOf w) = some e) := by
  have move (hs : rsOf w ≠ T.branchSentinel) (hm : T.moveMatch z w = some (step, e)) :
      step = .move ∧ rsOf w ≠ T.branchSentinel ∧ (T.moveTable.get z).lookup (rsOf w) = some e := by
    obtain ⟨e', he', heq⟩ := Option.map_eq_some_iff.mp hm
    cases heq
    exact ⟨rfl, hs, he'⟩
  unfold Profile.copMatch at h
  split at h
  · next hs => cases h; exact .inl ⟨rfl, hs, rfl⟩
  · next hs =>
    split at h
    · next hg =>
      split at h
      · next e' he' => cases h; exact .inr (.inl ⟨rfl, hs, hg, he'⟩)
      · exact .inr (.inr (move hs h))
    · exact .inr (.inr (move hs h))

/-- All that `CopDecode` can answer (R280, R287). -/
theorem Profile.copDecode_cases (T : Profile) (z : CopId) (w pc : Word32) :
    (T.copMatch z w = none ∧ T.copDecode z w pc = .rejected .unsupportedSubform) ∨
    ∃ step e, T.copMatch z w = some (step, e) ∧
      ((copMalformed step e w = true ∧ T.copDecode z w pc = .rejected .malformedEncoding) ∨
       (copMalformed step e w = false ∧
        T.copDecode z w pc =
          if step = .branch then acceptedBranch e.mn w pc false else acceptedPlain e.mn w false)) := by
  unfold Profile.copDecode
  cases hm : T.copMatch z w with
  | none => exact .inl ⟨rfl, rfl⟩
  | some m =>
    obtain ⟨step, e⟩ := m
    cases hb : copMalformed step e w with
    | true => exact .inr ⟨step, e, rfl, .inl ⟨hb, by simp [hb]⟩⟩
    | false => exact .inr ⟨step, e, rfl, .inr ⟨hb, by simp [hb]⟩⟩

/-- All that the regimm family can answer (R260). -/
theorem Profile.regimmDecode_cases (T : Profile) (w pc : Word32) :
    (T.regimmTable.lookup (rtOf w) = none ∧ T.regimmDecode w pc = .rejected .unsupportedSubform) ∨
    ∃ e, T.regimmTable.lookup (rtOf w) = some e ∧
      ((patternBroken e.zero w = true ∧ T.regimmDecode w pc = .rejected .malformedEncoding) ∨
       (patternBroken e.zero w = false ∧
        T.regimmDecode w pc =
          if e.cls = .branch then acceptedBranch e.mn w pc false else acceptedPlain e.mn w false)) := by
  unfold Profile.regimmDecode
  cases hm : T.regimmTable.lookup (rtOf w) with
  | none => exact .inl ⟨rfl, rfl⟩
  | some e =>
    cases hb : patternBroken e.zero w with
    | true => exact .inr ⟨e, rfl, .inl ⟨hb, by simp [hb]⟩⟩
    | false => exact .inr ⟨e, rfl, .inr ⟨hb, by simp [hb]⟩⟩

end Sys2Proof.Machine
end

