-- ==== Sys2Proof/Tests/Slice0.lean ====
section
/-! SUPPORT. Small tests, one check each. The expected values are the spec's own: the vectors V-R, V-I, V-G, V-C,
V-J, V-N and the programs P1 to P8 of `95_test_vectors.md`, and the examples of the rules named. At the end, a
witness for the hypotheses of every statement that has some. -/

namespace Sys2Proof.Tests

open Sys2Proof.Machine

/-! ### Well-formedness: each check refuses an ill-formed term -/

theorem test_wellFormed_refuses_zero_shift : (Instr.sll 1 2 0).wellFormed = false := by decide

theorem test_wellFormed_refuses_addu_zero : (Instr.addu 1 2 0).wellFormed = false := by decide

theorem test_wellFormed_accepts_shift : (Instr.sll 1 2 3).wellFormed = true := by decide

theorem test_wellFormed_accepts_addu : (Instr.addu 1 0 3).wellFormed = true := by decide

/-! ### Decoding: a word of the spec's vectors for every constructor -/

theorem test_decode_nopSll : decode 0x00061000#32 = .ok (.nopSll 2 6) := by decide

theorem test_decode_sll : decode 0x000610C0#32 = .ok (.sll 2 6 3) := by decide

theorem test_decode_srl : decode 0x000610C2#32 = .ok (.srl 2 6 3) := by decide

theorem test_decode_sra : decode 0x000610C3#32 = .ok (.sra 2 6 3) := by decide

theorem test_decode_sllv : decode 0x00A61004#32 = .ok (.sllv 2 6 5) := by decide

theorem test_decode_srlv : decode 0x00A61006#32 = .ok (.srlv 2 6 5) := by decide

theorem test_decode_srav : decode 0x00A61007#32 = .ok (.srav 2 6 5) := by decide

theorem test_decode_jr : decode 0x03E00008#32 = .ok (.jr 31) := by decide

theorem test_decode_jalr : decode 0x00A01009#32 = .ok (.jalr 2 5) := by decide

theorem test_decode_syscall : decode 0x03FFFFCC#32 = .ok (.syscall 0xFFFFF) := by decide

theorem test_decode_brk : decode 0x03FFFFCD#32 = .ok (.brk 0xFFFFF) := by decide

theorem test_decode_nopSync : decode 0x03FFFFCF#32 = .ok (.nopSync 0xFFFFF) := by decide

theorem test_decode_mfhi : decode 0x00001010#32 = .ok (.mfhi 2) := by decide

theorem test_decode_mthi : decode 0x00A00011#32 = .ok (.mthi 5) := by decide

theorem test_decode_mflo : decode 0x00001012#32 = .ok (.mflo 2) := by decide

theorem test_decode_mtlo : decode 0x00A00013#32 = .ok (.mtlo 5) := by decide

theorem test_decode_dsllv : decode 0x00A61014#32 = .ok (.dsllv 2 6 5) := by decide

theorem test_decode_dsrlv : decode 0x00A61016#32 = .ok (.dsrlv 2 6 5) := by decide

theorem test_decode_dsrav : decode 0x00A61017#32 = .ok (.dsrav 2 6 5) := by decide

theorem test_decode_mult : decode 0x00A60018#32 = .ok (.mult 5 6) := by decide

theorem test_decode_multu : decode 0x00A60019#32 = .ok (.multu 5 6) := by decide

theorem test_decode_div : decode 0x00A6001A#32 = .ok (.div 5 6) := by decide

theorem test_decode_divu : decode 0x00A6001B#32 = .ok (.divu 5 6) := by decide

theorem test_decode_dmult : decode 0x00A6001C#32 = .ok (.dmult 5 6) := by decide

theorem test_decode_dmultu : decode 0x00A6001D#32 = .ok (.dmultu 5 6) := by decide

theorem test_decode_ddiv : decode 0x00A6001E#32 = .ok (.ddiv 5 6) := by decide

theorem test_decode_ddivu : decode 0x00A6001F#32 = .ok (.ddivu 5 6) := by decide

theorem test_decode_add : decode 0x00A61020#32 = .ok (.add 2 5 6) := by decide

theorem test_decode_move : decode 0x02002021#32 = .ok (.move 4 16) := by decide

theorem test_decode_addu : decode 0x00A61021#32 = .ok (.addu 2 5 6) := by decide

theorem test_decode_sub : decode 0x00A61022#32 = .ok (.sub 2 5 6) := by decide

theorem test_decode_subu : decode 0x00A61023#32 = .ok (.subu 2 5 6) := by decide

theorem test_decode_and : decode 0x00A61024#32 = .ok (.and 2 5 6) := by decide

theorem test_decode_or : decode 0x00A61025#32 = .ok (.or 2 5 6) := by decide

theorem test_decode_xor : decode 0x00A61026#32 = .ok (.xor 2 5 6) := by decide

theorem test_decode_nor : decode 0x00A61027#32 = .ok (.nor 2 5 6) := by decide

theorem test_decode_slt : decode 0x00A6102A#32 = .ok (.slt 2 5 6) := by decide

theorem test_decode_sltu : decode 0x00A6102B#32 = .ok (.sltu 2 5 6) := by decide

theorem test_decode_dadd : decode 0x00A6102C#32 = .ok (.dadd 2 5 6) := by decide

theorem test_decode_daddu : decode 0x00A6102D#32 = .ok (.daddu 2 5 6) := by decide

theorem test_decode_dsub : decode 0x00A6102E#32 = .ok (.dsub 2 5 6) := by decide

theorem test_decode_dsubu : decode 0x00A6102F#32 = .ok (.dsubu 2 5 6) := by decide

theorem test_decode_tge : decode 0x00A6FFF0#32 = .ok (.tge 5 6 0x3FF) := by decide

theorem test_decode_tgeu : decode 0x00A6FFF1#32 = .ok (.tgeu 5 6 0x3FF) := by decide

theorem test_decode_tlt : decode 0x00A6FFF2#32 = .ok (.tlt 5 6 0x3FF) := by decide

theorem test_decode_tltu : decode 0x00A6FFF3#32 = .ok (.tltu 5 6 0x3FF) := by decide

theorem test_decode_teq : decode 0x0022FFF4#32 = .ok (.teq 1 2 0x3FF) := by decide

theorem test_decode_tne : decode 0x00A6FFF6#32 = .ok (.tne 5 6 0x3FF) := by decide

theorem test_decode_dsll : decode 0x000610F8#32 = .ok (.dsll 2 6 3) := by decide

theorem test_decode_dsrl : decode 0x000610FA#32 = .ok (.dsrl 2 6 3) := by decide

theorem test_decode_dsra : decode 0x000610FB#32 = .ok (.dsra 2 6 3) := by decide

theorem test_decode_dsll32 : decode 0x000610FC#32 = .ok (.dsll32 2 6 3) := by decide

theorem test_decode_dsrl32 : decode 0x000610FE#32 = .ok (.dsrl32 2 6 3) := by decide

theorem test_decode_dsra32 : decode 0x000610FF#32 = .ok (.dsra32 2 6 3) := by decide

theorem test_decode_beq : decode 0x10A60010#32 = .ok (.beq 5 6 16) := by decide

theorem test_decode_bne : decode 0x14A60010#32 = .ok (.bne 5 6 16) := by decide

theorem test_decode_blez : decode 0x18A00010#32 = .ok (.blez 5 16) := by decide

theorem test_decode_bgtz : decode 0x1CA00010#32 = .ok (.bgtz 5 16) := by decide

theorem test_decode_addi : decode 0x20A60010#32 = .ok (.addi 6 5 16) := by decide

theorem test_decode_addiu : decode 0x24A60010#32 = .ok (.addiu 6 5 16) := by decide

theorem test_decode_slti : decode 0x28A60010#32 = .ok (.slti 6 5 16) := by decide

theorem test_decode_sltiu : decode 0x2CA60010#32 = .ok (.sltiu 6 5 16) := by decide

theorem test_decode_andi : decode 0x30A60010#32 = .ok (.andi 6 5 16) := by decide

theorem test_decode_ori : decode 0x34A60010#32 = .ok (.ori 6 5 16) := by decide

theorem test_decode_xori : decode 0x38A60010#32 = .ok (.xori 6 5 16) := by decide

theorem test_decode_lui : decode 0x3C088000#32 = .ok (.lui 8 0x8000) := by decide

theorem test_decode_beql : decode 0x50A60010#32 = .ok (.beql 5 6 16) := by decide

theorem test_decode_bnel : decode 0x54A60010#32 = .ok (.bnel 5 6 16) := by decide

theorem test_decode_daddi : decode 0x60A60010#32 = .ok (.daddi 6 5 16) := by decide

theorem test_decode_daddiu : decode 0x64A60010#32 = .ok (.daddiu 6 5 16) := by decide

theorem test_decode_lb : decode 0x80A60010#32 = .ok (.lb 6 16 5) := by decide

theorem test_decode_lh : decode 0x84A60010#32 = .ok (.lh 6 16 5) := by decide

theorem test_decode_lwl : decode 0x88A60010#32 = .ok (.lwl 6 16 5) := by decide

theorem test_decode_lw : decode 0x8CA60010#32 = .ok (.lw 6 16 5) := by decide

theorem test_decode_lbu : decode 0x90A60010#32 = .ok (.lbu 6 16 5) := by decide

theorem test_decode_lhu : decode 0x94A60010#32 = .ok (.lhu 6 16 5) := by decide

theorem test_decode_lwr : decode 0x98A60010#32 = .ok (.lwr 6 16 5) := by decide

theorem test_decode_lwu : decode 0x9CA60010#32 = .ok (.lwu 6 16 5) := by decide

theorem test_decode_sb : decode 0xA0A60010#32 = .ok (.sb 6 16 5) := by decide

theorem test_decode_sh : decode 0xA4A60010#32 = .ok (.sh 6 16 5) := by decide

theorem test_decode_swl : decode 0xA8A60010#32 = .ok (.swl 6 16 5) := by decide

theorem test_decode_sw : decode 0xAFBF0014#32 = .ok (.sw 31 20 29) := by decide

theorem test_decode_swr : decode 0xB8A60010#32 = .ok (.swr 6 16 5) := by decide

theorem test_decode_cache : decode 0xBC9F8000#32 = .ok (.cache 31 0x8000 4) := by decide

theorem test_decode_lwc1 : decode 0xC4A60010#32 = .ok (.lwc1 6 16 5) := by decide

theorem test_decode_ldc1 : decode 0xD4A60010#32 = .ok (.ldc1 6 16 5) := by decide

theorem test_decode_ld : decode 0xDCA60010#32 = .ok (.ld 6 16 5) := by decide

theorem test_decode_swc1 : decode 0xE4A60010#32 = .ok (.swc1 6 16 5) := by decide

theorem test_decode_sdc1 : decode 0xF4A60010#32 = .ok (.sdc1 6 16 5) := by decide

theorem test_decode_bltz : decode 0x04A00010#32 = .ok (.bltz 5 16) := by decide

theorem test_decode_bgez : decode 0x04A10010#32 = .ok (.bgez 5 16) := by decide

theorem test_decode_bltzl : decode 0x04A20010#32 = .ok (.bltzl 5 16) := by decide

theorem test_decode_bgezl : decode 0x04A30010#32 = .ok (.bgezl 5 16) := by decide

theorem test_decode_tgei : decode 0x04A80010#32 = .ok (.tgei 5 16) := by decide

theorem test_decode_tgeiu : decode 0x04A90010#32 = .ok (.tgeiu 5 16) := by decide

theorem test_decode_tlti : decode 0x04AA0010#32 = .ok (.tlti 5 16) := by decide

theorem test_decode_tltiu : decode 0x04AB0010#32 = .ok (.tltiu 5 16) := by decide

theorem test_decode_teqi : decode 0x07EC8000#32 = .ok (.teqi 31 0x8000) := by decide

theorem test_decode_tnei : decode 0x04AE0010#32 = .ok (.tnei 5 16) := by decide

theorem test_decode_bltzal : decode 0x04B00010#32 = .ok (.bltzal 5 16) := by decide

theorem test_decode_bgezal : decode 0x04B10010#32 = .ok (.bgezal 5 16) := by decide

theorem test_decode_bltzall : decode 0x04B20010#32 = .ok (.bltzall 5 16) := by decide

theorem test_decode_bgezall : decode 0x04B30010#32 = .ok (.bgezall 5 16) := by decide

theorem test_decode_bc0f : decode 0x411CFFFF#32 = .ok (.bc0f 7 0xFFFF) := by decide

theorem test_decode_bc0t : decode 0x411DFFFF#32 = .ok (.bc0t 7 0xFFFF) := by decide

theorem test_decode_bc0fl : decode 0x411EFFFF#32 = .ok (.bc0fl 7 0xFFFF) := by decide

theorem test_decode_bc0tl : decode 0x411FFFFF#32 = .ok (.bc0tl 7 0xFFFF) := by decide

theorem test_decode_bc1f : decode 0x451CFFFF#32 = .ok (.bc1f 7 0xFFFF) := by decide

theorem test_decode_bc1t : decode 0x451DFFFF#32 = .ok (.bc1t 7 0xFFFF) := by decide

theorem test_decode_bc1fl : decode 0x451EFFFF#32 = .ok (.bc1fl 7 0xFFFF) := by decide

theorem test_decode_bc1tl : decode 0x451F0002#32 = .ok (.bc1tl 7 2) := by decide

theorem test_decode_bc2f : decode 0x491CFFFF#32 = .ok (.bc2f 7 0xFFFF) := by decide

theorem test_decode_bc2t : decode 0x491DFFFF#32 = .ok (.bc2t 7 0xFFFF) := by decide

theorem test_decode_bc2fl : decode 0x491EFFFF#32 = .ok (.bc2fl 7 0xFFFF) := by decide

theorem test_decode_bc2tl : decode 0x491FFFFF#32 = .ok (.bc2tl 7 0xFFFF) := by decide

theorem test_decode_addFmt : decode 0x46262880#32 = .ok (.addFmt 1 2 5 6) := by decide

theorem test_decode_subFmt : decode 0x46262881#32 = .ok (.subFmt 1 2 5 6) := by decide

theorem test_decode_mulFmt : decode 0x46262882#32 = .ok (.mulFmt 1 2 5 6) := by decide

theorem test_decode_divFmt : decode 0x46262883#32 = .ok (.divFmt 1 2 5 6) := by decide

theorem test_decode_sqrtFmt : decode 0x46202884#32 = .ok (.sqrtFmt 1 2 5) := by decide

theorem test_decode_negFmt : decode 0x46202887#32 = .ok (.negFmt 1 2 5) := by decide

theorem test_decode_roundWFmt : decode 0x4620288C#32 = .ok (.roundWFmt 1 2 5) := by decide

theorem test_decode_truncWFmt : decode 0x4620288D#32 = .ok (.truncWFmt 1 2 5) := by decide

theorem test_decode_ceilWFmt : decode 0x4620288E#32 = .ok (.ceilWFmt 1 2 5) := by decide

theorem test_decode_floorWFmt : decode 0x4620288F#32 = .ok (.floorWFmt 1 2 5) := by decide

theorem test_decode_cvtSFmt : decode 0x462028A0#32 = .ok (.cvtSFmt 1 2 5) := by decide

theorem test_decode_cvtDFmt : decode 0x462028A1#32 = .ok (.cvtDFmt 1 2 5) := by decide

theorem test_decode_cvtWFmt : decode 0x462028A4#32 = .ok (.cvtWFmt 1 2 5) := by decide

theorem test_decode_cCondFmt : decode 0x4626283C#32 = .ok (.cCondFmt 1 12 5 6 0) := by decide

theorem test_decode_mfc0 : decode 0x40066000#32 = .ok (.mfc0 6 12) := by decide

theorem test_decode_dmfc0 : decode 0x40266000#32 = .ok (.dmfc0 6 12) := by decide

theorem test_decode_cfc0 : decode 0x40466000#32 = .ok (.cfc0 6 12) := by decide

theorem test_decode_mtc0 : decode 0x40866000#32 = .ok (.mtc0 6 12) := by decide

theorem test_decode_dmtc0 : decode 0x40A66000#32 = .ok (.dmtc0 6 12) := by decide

theorem test_decode_ctc0 : decode 0x40C66000#32 = .ok (.ctc0 6 12) := by decide

theorem test_decode_mfc1 : decode 0x44066000#32 = .ok (.mfc1 6 12) := by decide

theorem test_decode_dmfc1 : decode 0x44266000#32 = .ok (.dmfc1 6 12) := by decide

theorem test_decode_cfc1 : decode 0x44466000#32 = .ok (.cfc1 6 12) := by decide

theorem test_decode_mtc1 : decode 0x44846000#32 = .ok (.mtc1 4 12) := by decide

theorem test_decode_dmtc1 : decode 0x44A66000#32 = .ok (.dmtc1 6 12) := by decide

theorem test_decode_ctc1 : decode 0x44C66000#32 = .ok (.ctc1 6 12) := by decide

theorem test_decode_mfc2 : decode 0x48066000#32 = .ok (.mfc2 6 12) := by decide

theorem test_decode_dmfc2 : decode 0x48266000#32 = .ok (.dmfc2 6 12) := by decide

theorem test_decode_cfc2 : decode 0x48466000#32 = .ok (.cfc2 6 12) := by decide

theorem test_decode_mtc2 : decode 0x48866000#32 = .ok (.mtc2 6 12) := by decide

theorem test_decode_dmtc2 : decode 0x48A66000#32 = .ok (.dmtc2 6 12) := by decide

theorem test_decode_ctc2 : decode 0x48C66000#32 = .ok (.ctc2 6 12) := by decide

theorem test_decode_j : decode 0x08000001#32 = .ok (.j 1) := by decide

theorem test_decode_jal : decode 0x0C000001#32 = .ok (.jal 1) := by decide

/-! ### Rejection: one word for each cause, with its class -/

theorem test_reject_unmapped_function_code : decode 0x00000001#32 = .error .unknownSelector := by decide

theorem test_reject_nonzero_rs_of_shift : decode 0x03E00000#32 = .error .malformedEncoding := by decide

theorem test_reject_nonzero_shamt_of_addu : decode 0x02002061#32 = .error .malformedEncoding := by decide

theorem test_reject_all_ones : decode 0xFFFFFFFF#32 = .error .unknownSelector := by decide

theorem test_reject_exception_return : decode 0x42000018#32 = .error .unsupportedSubform := by decide

theorem test_reject_unary_with_ft : decode 0x46010004#32 = .error .malformedEncoding := by decide

theorem test_reject_move_with_low_bits : decode 0x40066001#32 = .error .malformedEncoding := by decide

theorem test_reject_compare_window : decode 0x46000070#32 = .error .unsupportedSubform := by decide

theorem test_reject_regimm : decode 0x04040010#32 = .error .unsupportedSubform := by decide

theorem test_reject_cop_rs_three : decode 0x40600000#32 = .error .unsupportedSubform := by decide

theorem test_reject_lui_rs : decode 0x3C288000#32 = .error .malformedEncoding := by decide

theorem test_reject_blez_rt : decode 0x18A10010#32 = .error .malformedEncoding := by decide

/-! ### Targets (S2, S3, V-I, V-J) -/

theorem test_branch_target : branchTarget 0x1000 0x0004 = 0x1014#32 := by decide

theorem test_branch_target_backwards : branchTarget 0x80001000 0x8000 = 0x7FFE1004#32 := by decide

theorem test_jump_target : jumpTarget 0x80000000 1 = 0x80000004#32 := by decide

theorem test_jump_target_segment : jumpTarget 0x8FFFFFFC 1 = 0x90000004#32 := by decide

theorem test_jump_target_wraps : jumpTarget 0xFFFFFFFC 0x100 = 0x00000400#32 := by decide

/-! ### Bytes (R52, P6) -/

theorem test_decodeBytes_big :
    decodeBytes .big [0x08, 0x00, 0x01, 0x00, 0xAA] = .ok (.j 0x100, [0xAA#8]) := by decide

theorem test_decodeBytes_little :
    decodeBytes .little [0x00, 0x01, 0x00, 0x08] = .ok (.j 0x100, []) := by decide

theorem test_decodeBytes_short : decodeBytes .big [0x00, 0x00, 0x00] = .error .endOfData := by decide

theorem test_decodeTableWord : decodeTableWord 32 0x00A61020 = some (.add 2 5 6) := by decide

theorem test_encode_add : encode (.add 2 5 6) = 0x00A61020#32 := by decide

theorem test_encode_compare : encode (.cCondFmt 1 12 5 6 0) = 0x4626283C#32 := by decide

/-! ### The name tables and the text line (V-N) -/

theorem test_name_29 : generalRegisterName 29 = "$sp" := by decide

theorem test_name_31 : generalRegisterName 31 = "$ra" := by decide

theorem test_float_name : floatRegisterName 12 = "$f12" := by decide

theorem test_condition_name : conditionName 12 = "lt" := by decide

theorem test_copBranchName : copBranchName 1 2 = some "bc1fl" := by decide

theorem test_copBranchName_absent : copBranchName 3 0 = none := by decide

theorem test_formatChar : formatChar '?' 20 = 'w' := by decide

theorem test_formatChar_unknown : formatChar '?' 18 = '?' := by decide

theorem test_line_nop :
    renderResult RenderParams.default (tDefault.decode 0x00000000 0x80001000) 0x80001000 =
      some "0x80001000 nop      " := by decide

theorem test_line_addiu :
    renderResult RenderParams.default (tDefault.decode 0x27BDFFE8 0x80001004) 0x80001004 =
      some "0x80001004 addiu    $sp, $sp, -24" := by decide

theorem test_line_sw :
    renderResult RenderParams.default (tDefault.decode 0xAFBF0014 0x80001008) 0x80001008 =
      some "0x80001008 sw       $ra, 20($sp)" := by decide

theorem test_line_jal :
    renderResult RenderParams.default (tDefault.decode 0x0C000001 0x80000000) 0x80000000 =
      some "0x80000000 jal      0x80000004" := by decide

theorem test_line_beq :
    renderResult RenderParams.default (tDefault.decode 0x10000004 0x00001000) 0x00001000 =
      some "0x00001000 beq      $zero, $zero, 0x00001014" := by decide

theorem test_line_move :
    renderResult RenderParams.default (tDefault.decode 0x02002021 0x80001010) 0x80001010 =
      some "0x80001010 move     $a0, $s0" := by decide

theorem test_line_lui :
    renderResult RenderParams.default (tDefault.decode 0x3C088000 0x80001014) 0x80001014 =
      some "0x80001014 lui      $t0, 32768" := by decide

theorem test_line_lbu :
    renderResult RenderParams.default (tDefault.decode 0x90828000 0x80001018) 0x80001018 =
      some "0x80001018 lbu      $v0, 32768($a0)" := by decide

theorem test_line_lb :
    renderResult RenderParams.default (tDefault.decode 0x80828000 0x8000101C) 0x8000101C =
      some "0x8000101c lb       $v0, -32768($a0)" := by decide

theorem test_line_c_lt_s :
    renderResult RenderParams.default (tDefault.decode 0x4602003C 0x80001020) 0x80001020 =
      some "0x80001020 c.lt.s   $f0, $f2" := by decide

theorem test_line_add_unknown :
    renderResult RenderParams.default (tDefault.decode 0x47E22180 0x80001024) 0x80001024 =
      some "0x80001024 add.?    $f6, $f4, $f2" := by decide

theorem test_line_mtc0 :
    renderResult RenderParams.default (tDefault.decode 0x40886000 0x80001028) 0x80001028 =
      some "0x80001028 mtc0     $t0, $12" := by decide

theorem test_line_cache :
    renderResult RenderParams.default (tDefault.decode 0xBC940010 0x8000102C) 0x8000102C =
      some "0x8000102c cache    20, 16($a0)" := by decide

theorem test_line_jr :
    renderResult RenderParams.default (tDefault.decode 0x03E00008 0x80001030) 0x80001030 =
      some "0x80001030 jr       $ra" := by decide

theorem test_line_syscall :
    renderResult RenderParams.default (tDefault.decode 0x0000000C 0x80001034) 0x80001034 =
      some "0x80001034 syscall  " := by decide

theorem test_rejected_prints_nothing :
    renderResult RenderParams.default (tDefault.decode 0xFFFFFFFF 0) 0 = none := by decide

/-! ### Single steps -/

/-- The state a step answers. -/
def after : Outcome → Option State
  | .next t => some t
  | .fault _ => none
  | .refused _ => none

/-- P7: four valid words and the all-ones word, the program counter about to wrap. -/
def wrapImage : State :=
  State.ofInputs
    [0x00, 0x00, 0x00, 0x00, 0x08, 0x00, 0x01, 0x00, 0x10, 0x00, 0xFF, 0xFF, 0x00, 0x00, 0x00, 0x00, 0xFF, 0xFF,
      0xFF, 0xFF] 0xFFFFFFF8 0 .big

/-- P7 with the scan started at the jump, at its own address. -/
def atJump : State := { wrapImage with offset := 4, programCounter := 0xFFFFFFFC, scanStart := 4, entryAddress := 0xFFFFFFFC }

/-- P7 with the scan started at the unconditional branch. -/
def atBranch : State := { wrapImage with offset := 8, programCounter := 0, scanStart := 8, entryAddress := 0 }

/-- P7 with the scan started at the all-ones word. -/
def atBad : State := { wrapImage with offset := 16, programCounter := 8, scanStart := 16, entryAddress := 8 }

/-- P7 with the scan started at its end. -/
def atEnd : State := { wrapImage with offset := 20, programCounter := 12, scanStart := 20, entryAddress := 12 }

/-- An image whose first word is rejected (P5). -/
def badFirst : State := State.ofInputs [0xFF, 0xFF, 0xFF, 0xFF] 0x80000000 0 .big

/-- An image whose second word is rejected, scanned from that word: the lowest offset that has a word before it. -/
def badSecond : State := State.ofInputs [0, 0, 0, 0, 0xFF, 0xFF, 0xFF, 0xFF] 0x80000000 4 .big

theorem test_step_nop_record :
    (after (step wrapImage)).map State.records =
      some [⟨0xFFFFFFF8, 0, 0, resultAlias .nop .sll 0⟩] := by decide

theorem test_step_nop_counts_nothing :
    (after (step wrapImage)).map (fun t => (t.jumpCount, t.branchCount)) = some (0#32, 0#32) := by decide

theorem test_step_jump_counts :
    (after (step atJump)).map (fun t => (t.jumpCount, t.branchCount)) = some (1#32, 0#32) := by decide

theorem test_step_jump_wraps_program_counter :
    (after (step atJump)).map (fun t => (t.programCounter, t.offset)) = some (0#32, 8#32) := by decide

theorem test_step_branch_counts :
    (after (step atBranch)).map (fun t => (t.jumpCount, t.branchCount)) = some (0#32, 1#32) := by decide

theorem test_step_branch_does_not_branch :
    (after (step atBranch)).map (fun t => (t.programCounter, t.offset)) = some (4#32, 12#32) := by decide

theorem test_step_rejected_halts :
    (after (step atBad)).map (fun t => (t.fsm, t.boundaryOffset, t.binaryStart, t.programCounter)) =
      some (.halted, 12#32, 16#32, 8#32) := by decide

theorem test_step_end_of_data_halts :
    (after (step atEnd)).map (fun t => (t.fsm, t.boundaryOffset, t.binaryStart, t.records)) =
      some (.halted, 16#32, 20#32, []) := by decide

theorem test_step_short_tail_is_end_of_data :
    (after (step (State.ofInputs [0, 0, 0] 0x80000000 0 .big))).map (fun t => (t.fsm, t.binaryStart)) =
      some (.halted, 0#32) := by decide

theorem test_step_rejected_at_zero :
    (after (step badFirst)).map (fun t => (t.fsm, t.binaryStart, t.boundaryValid)) =
      some (.halted, 0#32, true) := by decide

theorem test_step_halted_keeps : (after (step atBad.haltScan)) = some atBad.haltScan := by decide

theorem test_reset_leaves_halted :
    (after (clockEdge true atBad.haltScan)).map (fun t => (t.fsm, t.offset, t.boundaryValid)) =
      some (.scanning, 16#32, false) := by decide

theorem test_step_placed_word :
    (after (step (State.reset.withFetchWord 32 0x00A61020))).map (fun t => t.records.map Record.word) =
      some [0x00A61020#32] := by decide

theorem test_step_placed_word_little :
    (after (step ({ State.reset with byteOrder := .little }.withFetchWord 32 0x08000100))).map State.jumpCount =
      some 1#32 := by decide

theorem test_step_from_reset_is_end_of_data :
    (after (step State.reset)).map (fun t => (t.fsm, t.binaryStart, t.boundaryOffset)) =
      some (.halted, 0x1000#32, 0xFFC#32) := by decide

theorem test_ports_of_jump :
    (atJump.ports.record.map Record.insn, atJump.ports.debugClass) =
      (some (resultJump .j 0x08000100 0xFFFFFFFC 0x100), some 0#2) := by decide

theorem test_ports_of_rejected : atBad.ports.debugClass = some 2#2 := by decide

/-! ### The opcode table -/

theorem test_table_rows :
    (rFormRows.length, iFormRows.length, regimmRows.length, copBranchRows.length, copFloatRows.length,
      copMoveRows.length, jFormRows.length) = (54, 35, 14, 12, 14, 18, 2) := by decide

theorem test_table_alias :
    tableAnswer 0x00000021 = .accepted ⟨.move, some .addu, .R, 0x21, 0xFC1F07FF, 0x21, 0xFC00003F, 0⟩ := by decide

theorem test_table_malformed : tableAnswer 0x02002061 = .malformedEncoding := by decide

theorem test_table_none : tableAnswer 0xFFFFFFFF = .noEntry := by decide

/-! ### Witnesses: a concrete instance of the hypotheses of each statement that has some -/

/-- The hypothesis of every statement over well-formed profiles is met by the default tables (R97). -/
theorem witness_wellFormed_profile : tDefault.WellFormed where
  routes := by decide
  opcode4 := ⟨by decide, .beq, false, by decide⟩
  opcode63 := by decide
  rEntries := ⟨by unfold keysDistinct; decide, by decide⟩
  noop := ⟨0#32, .sll, fun _ => rfl⟩
  regimm := ⟨by unfold keysDistinct; decide, by decide, by unfold keysDistinct; decide, by decide⟩
  cops := ⟨by intro z; cases z <;> decide, by decide⟩
  likely := by decide
  cascade := ⟨by decide, by intro z; cases z <;> decide, by decide⟩

/-- A second profile, with the shift and the sync-class function codes exchanged with unmapped ones. -/
def shiftedProfile : Profile :=
  { tDefault with
    rTable := [(1#6, rEntry .sll [.rs] .shiftNop), (5#6, rEntry .sync [] .syncClass),
      (33#6, rEntry .addu [.shamt] .addMove)] }

theorem witness_wellFormed_second_profile : shiftedProfile.WellFormed where
  routes := by decide
  opcode4 := ⟨by decide, .beq, false, by decide⟩
  opcode63 := by decide
  rEntries := ⟨by unfold keysDistinct; decide, by decide⟩
  noop := ⟨1#32, .sll, fun _ => rfl⟩
  regimm := ⟨by unfold keysDistinct; decide, by decide, by unfold keysDistinct; decide, by decide⟩
  cops := ⟨by intro z; cases z <;> decide, by decide⟩
  likely := by decide
  cascade := ⟨by decide, by intro z; cases z <;> decide, by decide⟩

/-- A third profile, stricter where `T_default` tests nothing (D6, D7, U2): the branch suffixes of coprocessor 0 in
another order and with `rt[4:2]` required zero, a compare with `imm[10:8]` required zero, a regimm entry with `rs`
required zero, and an R-form entry with an operand list of its own. -/
def strictProfile : Profile :=
  let strict (mn : Mnemonic) : CopEntry := ⟨mn, [.target], [.rtHigh]⟩
  { tDefault with
    rTable := (9#6, ⟨.jalr, [.rs], [.rt, .shamt], .plain⟩) :: defaultRTable.filter (fun e => e.1 != 9#6)
    branchTable := { tDefault.branchTable with cop0 := ⟨strict .bc0t, strict .bc0f, strict .bc0tl, strict .bc0fl⟩ }
    compare := ⟨.cCondFmt, [.fs, .ft], [.immMiddle]⟩
    regimmTable := (12#5, ⟨.teqi, .trapImmediate, [.rs]⟩) :: defaultRegimmTable.filter (fun e => e.1 != 12#5) }

theorem witness_wellFormed_third_profile : strictProfile.WellFormed where
  routes := by decide
  opcode4 := ⟨by decide, .beq, false, by decide⟩
  opcode63 := by decide
  rEntries := ⟨by unfold keysDistinct; decide, by decide⟩
  noop := ⟨0#32, .sll, fun _ => rfl⟩
  regimm := ⟨by unfold keysDistinct; decide, by decide, by unfold keysDistinct; decide, by decide⟩
  cops := ⟨by intro z; cases z <;> decide, by decide⟩
  likely := by decide
  cascade := ⟨by decide, by intro z; cases z <;> decide, by decide⟩

theorem test_profile_branch_order :
    strictProfile.decode 0x41000010 0x80001000 = .accepted (resultBranch .bc0t 0x41000010 0x80001000 0x10) ∧
      strictProfile.decode 0x411C0010 0x80001000 = .rejected .malformedEncoding := by decide

theorem test_profile_compare_and_regimm_patterns :
    strictProfile.decode 0x4626213C 0 = .rejected .malformedEncoding ∧
      tDefault.decode 0x4626213C 0 = .accepted (resultI .cCondFmt 0x4626213C) ∧
      strictProfile.decode 0x04AC0010 0 = .rejected .malformedEncoding ∧
      tDefault.decode 0x04AC0010 0 = .accepted (resultI .teqi 0x04AC0010) := by decide

theorem test_profile_operands :
    strictProfile.operandsOf (resultR .jalr 0x00A0F809) = [.rs] ∧
      tDefault.operandsOf (resultR .jalr 0x00A0F809) = [.rd, .rs] := by decide

/-- The default I-table with the "likely" mark moved to two loads. -/
def markedLoads : Profile :=
  { tDefault with
    iTable := (32#6, .direct .lb .memory [] true) :: (33#6, .direct .lh .memory [] true) ::
      (defaultITable.filter (fun e => e.1 != 32#6 && e.1 != 33#6 && !e.2.isLikelyBranch)) }

/-- Marked entries that are no branches do not meet W8. -/
theorem test_likely_needs_branches : ¬ markedLoads.WellFormed := fun h => absurd h.likely (by decide)

theorem witness_DecodeInvertsEncode : (Instr.sll 31 0 1).wellFormed = true := by decide

theorem witness_EncodeInvertsDecode : decode 0x03FFFFCD = .ok (.brk 0xFFFFF) := by decide

theorem witness_DecoderIsDefaultProfile :
    decode 0x10000004 = .ok (.beq 0 0 4) ∧ { State.reset with programCounter := 0x1000 }.programCounter = 0x1000#32 := by
  decide

theorem witness_RoutingSplitsOpcodes :
    tDefault.decode 0x10000004 0x1000 =
        .accepted ⟨.beq, .I, 0x10000004, some 0x1014, none, true⟩ ∧
      tDefault.route (opcodeOf 0x08000000) = .J := by decide

theorem witness_UnconditionalBranchPattern_marked :
    Reads atBranch 0x1000FFFF ∧
      tDefault.decode 0x1000FFFF atBranch.programCounter =
        .accepted ⟨.beq, .I, 0x1000FFFF, some 0, none, true⟩ := by
  refine ⟨⟨rfl, ?_⟩, ?_⟩ <;> decide

theorem witness_UnconditionalBranchPattern_unmarked :
    Reads wrapImage 0 ∧
      tDefault.decode 0 wrapImage.programCounter = .accepted (resultAlias .nop .sll 0) := by
  refine ⟨⟨rfl, ?_⟩, ?_⟩ <;> decide

theorem witness_JDecodeAlwaysAccepts :
    tDefault.route (opcodeOf 0x0BFFFFFF) = .J ∧ opcodeOf 0x0BFFFFFF = tDefault.opJ ∧
      tDefault.route (opcodeOf 0x0C000000) = .J ∧ opcodeOf 0x0C000000 = tDefault.opJal := by decide

theorem witness_ResultRecordShape :
    tDefault.decode 0x00000000 0 = .accepted (resultAlias .nop .sll 0) ∧
      tDefault.decode 0x08000001 0 = .accepted (resultJump .j 0x08000001 0 1) ∧
      tDefault.decode 0x14000001 0 = .accepted (resultBranch .bne 0x14000001 0 1) := by decide

theorem witness_BranchTargetFormula :
    tDefault.decode 0x14000001 0 = .accepted (resultBranch .bne 0x14000001 0 1) ∧
      Mnemonic.bne.isBranchClass = true := by decide

theorem witness_JumpTargetFormula :
    tDefault.decode 0x08000001 0 = .accepted (resultJump .j 0x08000001 0 1) ∧
      Mnemonic.j.isJumpClass = true := by decide

theorem witness_AliasForms_sync :
    tDefault.route (opcodeOf 0x03FFFFCF) = .R ∧
      tDefault.rTable.lookup (functOf 0x03FFFFCF) = some (rEntry .sync [] .syncClass) ∧
      tDefault.decode 0x03FFFFCF 0 = .accepted (resultAlias .nop .sync 0x03FFFFCF) := by decide

theorem witness_AliasForms_shift :
    tDefault.rTable.lookup (functOf 0x001F0000) = some (rEntry .sll [.rs] .shiftNop) ∧
      tDefault.decode 0x001F0000 0 = .accepted (resultAlias .nop .sll 0x001F0000) ∧
      tDefault.decode 0x00000040 0 = .accepted (resultR .sll 0x00000040) := by decide

theorem witness_AliasForms_move :
    tDefault.rTable.lookup (functOf 0x02002021) = some (rEntry .addu [.shamt] .addMove) ∧
      tDefault.decode 0x02002021 0 = .accepted (resultAlias .move .addu 0x02002021) ∧
      tDefault.decode 0x00102021 0 = .accepted (resultR .addu 0x00102021) := by decide

theorem witness_CoprocessorRejections :
    opcodeOf 0x42000018 = 16 ∧ rsOf 0x42000018 ∉ ([0, 1, 2, 4, 5, 6, 8] : List (BitVec 5)) ∧
      opcodeOf 0x4626283C = 17 ∧ floatGateOf 0x4626283C = true ∧
      opcodeOf 0x44600000 = 17 ∧ rsOf 0x44600000 = 3 ∧ opcodeOf 0x49E00000 = 18 ∧ rsOf 0x49E00000 = 15 := by
  decide

theorem witness_StepRunsDecodedInstruction :
    Reads atJump 0x08000100 ∧ decode 0x08000100 = .ok (.j 0x100) := by
  refine ⟨⟨rfl, ?_⟩, ?_⟩ <;> decide

theorem witness_AcceptedWordAdvances :
    Reads atJump 0x08000100 ∧
      tDefault.decode 0x08000100 atJump.programCounter =
        .accepted (resultJump .j 0x08000100 0xFFFFFFFC 0x100) ∧
      ∃ t, step atJump = .next t := by
  refine ⟨⟨rfl, ?_⟩, ?_, _, rfl⟩ <;> decide

theorem witness_RejectedWordHalts_at_four :
    Reads badSecond 0xFFFFFFFF ∧ badSecond.offset.toNat = 4 ∧
      tDefault.decode 0xFFFFFFFF badSecond.programCounter = .rejected .unknownSelector := by
  refine ⟨⟨rfl, ?_⟩, ?_, ?_⟩ <;> decide

theorem witness_RejectedWordHalts_below_four :
    Reads badFirst 0xFFFFFFFF ∧ badFirst.offset.toNat = 0 ∧
      tDefault.decode 0xFFFFFFFF badFirst.programCounter = .rejected .unknownSelector := by
  refine ⟨⟨rfl, ?_⟩, ?_, ?_⟩ <;> decide

theorem witness_EndOfDataHalts : AtEndOfData atEnd ∧ atEnd.offset.toNat = atEnd.imageSize.toNat := by
  refine ⟨⟨rfl, ?_⟩, ?_⟩ <;> decide

theorem witness_HaltedIsTerminal : atBad.haltScan.fsm = .halted := rfl

/-- P7 after its first two words. -/
def midScan : State := ((after (step wrapImage)).bind (fun t => after (step t))).getD wrapImage

theorem midScan_records : midScan.records =
    [⟨0xFFFFFFF8, 0, 0, resultAlias .nop .sll 0⟩,
      ⟨0xFFFFFFFC, 4, 0x08000100, resultJump .j 0x08000100 0xFFFFFFFC 0x100⟩] := by decide

/-- The invariant holds of a state in the middle of a scan, with two records. -/
theorem witness_ScanInvariant : ScanInvariant midScan where
  offset_eq := by decide
  programCounter_eq := by decide
  jumpCount_eq := by decide
  branchCount_eq := by decide
  offset_le := by decide
  halted_valid := by decide
  halted_boundary := by decide
  scanning_invalid := by decide
  records_replay := by
    intro k r h
    rw [midScan_records] at h
    match k with
    | 0 => cases h; unfold RecordReplays; decide
    | 1 => cases h; unfold RecordReplays; decide
    | k + 2 => cases h

theorem witness_ScanInvariantKept : ScanInvariant midScan ∧ ∃ t, step midScan = .next t :=
  ⟨witness_ScanInvariant, _, rfl⟩

theorem witness_CountersBounded : ScanInvariant midScan ∧ midScan.scanStart.toNat ≤ midScan.imageSize.toNat :=
  ⟨witness_ScanInvariant, by decide⟩

theorem witness_RecordsInAddressOrder :
    ScanInvariant midScan ∧ ∃ r r', midScan.records[0]? = some r ∧ midScan.records[1]? = some r' :=
  ⟨witness_ScanInvariant, _, _, by rw [midScan_records]; exact ⟨rfl, rfl⟩⟩

theorem witness_PortsShowTheStep : ScanInvariant midScan ∧ ∃ t, step midScan = .next t :=
  witness_ScanInvariantKept

theorem witness_OperandListsAgree :
    tDefault.decode 0x8CA60010 0 = .accepted (resultI .lw 0x8CA60010) ∧
      tDefault.decode 0x02002021 0 = .accepted (resultAlias .move .addu 0x02002021) := by decide

/-- A jump and then an all-ones word, scanned to the halt. -/
def endScan : State :=
  let start := State.ofInputs [0x08, 0x00, 0x01, 0x00, 0xFF, 0xFF, 0xFF, 0xFF] 0x80000000 0 .big
  ((after (step start)).bind (fun t => after (step t))).getD start

theorem endScan_records : endScan.records =
    [⟨0x80000000, 0, 0x08000100, resultJump .j 0x08000100 0x80000000 0x100⟩] := by decide

/-- The invariant holds of a halted state with a record, its offset at the boundary value 4. -/
theorem witness_PortsShowTheBoundary :
    ScanInvariant endScan ∧ endScan.fsm = .halted ∧ 4 ≤ endScan.offset.toNat where
  left := {
    offset_eq := by decide
    programCounter_eq := by decide
    jumpCount_eq := by decide
    branchCount_eq := by decide
    offset_le := by decide
    halted_valid := by decide
    halted_boundary := by decide
    scanning_invalid := by decide
    records_replay := by
      intro k r h
      rw [endScan_records] at h
      match k with
      | 0 => cases h; unfold RecordReplays; decide
      | k + 1 => cases h }
  right := by decide

theorem witness_InputsHeldConstant : (∃ t, step atBad = .next t) ∧ ∃ t, exec (.sw 1 2 3) atBad = .next t :=
  ⟨⟨_, rfl⟩, _, rfl⟩

theorem witness_ImageStaysSound :
    ImageSound wrapImage ∧ wrapImage.offset.toNat + 4 < 2 ^ 32 ∧
      ([0xFF, 0x00] : List Byte).length < 2 ^ 32 ∧ ∃ t, step wrapImage = .next t :=
  ⟨⟨by decide, by decide⟩, by decide, by decide, _, rfl⟩

theorem witness_ScanClosedForm :
    wrapImage.fsm = .scanning ∧ (tDefault.acceptedAhead wrapImage).length = 4 ∧
      4 ≤ wrapImage.offset.toNat + 4 * (tDefault.acceptedAhead wrapImage).length := by decide

theorem witness_EndToEndBoundary :
    4 ∣ ([1, 2, 3, 4] : List Byte).length ∧
      (∀ w ∈ ([0x08000001, 0x10000004, 0] : List Word32), tDefault.accepts w = true) ∧
      tDefault.accepts 0xFFFFFFFF = false ∧
      (([1, 2, 3, 4] : List Byte) ++ ([0x08000001, 0x10000004, 0] : List Word32).flatMap (wordBytes .little) ++
        wordBytes .little 0xFFFFFFFF ++ [9]).length < 2 ^ 32 ∧
      0 < ([1, 2, 3, 4] : List Byte).length + ([0x08000001, 0x10000004, 0] : List Word32).length :=
  ⟨by decide, List.forall_mem_cons.mpr ⟨by decide, List.forall_mem_cons.mpr ⟨by decide,
    List.forall_mem_cons.mpr ⟨by decide, fun _ h => nomatch h⟩⟩⟩, by decide, by simp [wordBytes], by decide⟩

theorem witness_ImageReadAssembles_big : imgRead32 wrapImage 8 = some 0x1000FFFF := by decide

theorem witness_ImageReadAssembles_little :
    imgRead32 { wrapImage with byteOrder := .little } 16 = some 0xFFFFFFFF ∧
      imgRead32 { wrapImage with byteOrder := .little } 17 = none := by decide

theorem witness_PlacedWordIsFetched :
    Memory.wf State.reset.image = true ∧ State.reset.offset.toNat + 4 < 2 ^ 32 ∧
      decode (tableWord 32 0x00A61020) = .ok (.add 2 5 6) := by decide

theorem witness_ShiftsComplete : (1 : BitVec 5) ≠ 0#5 ∧ ∃ t, exec (.sll 2 3 1) wrapImage = .next t :=
  ⟨by decide, _, rfl⟩

theorem witness_ThreeRegisterFormsComplete :
    (31 : BitVec 5) ≠ 0#5 ∧ ∃ t, exec (.addu 2 3 31) wrapImage = .next t :=
  ⟨by decide, _, rfl⟩

theorem witness_InstructionFrame : ∃ t, exec (.cvtWFmt 15 1 2) midScan = .next t := ⟨_, rfl⟩

theorem witness_CountersMoveExactly :
    (∃ t, exec (.j 5) wrapImage = .next t) ∧ (∃ t, exec (.beq 0 0 7) wrapImage = .next t) ∧
      ∃ t, exec (.beq 1 0 7) wrapImage = .next t :=
  ⟨⟨_, rfl⟩, ⟨_, rfl⟩, _, rfl⟩

end Sys2Proof.Tests
end

section
/-! SUPPORT and the proof of O55. What `exec` can do is said once, as one of the four ways to accept a word; the
frame of every instruction follows from the lemma about each way. -/

namespace Sys2Proof.Machine

/-- Every instruction is executed by accepting its own word in one of the four ways, by the form of its entry: the
block recognises and executes nothing (R6). -/
theorem exec_cases (i : Instr) (s : State) :
    (∃ mn via, exec i s = acceptR mn via (encode i) s) ∨
    (∃ mn, exec i s = acceptI mn (encode i) s) ∨
    (∃ mn imm ubranch, exec i s = acceptBranch mn (encode i) imm ubranch s) ∨
    ∃ mn target, exec i s = acceptJ mn (encode i) target s := by
  cases i with
  | nopSll | sll | srl | sra | sllv | srlv | srav | jr | jalr | syscall | brk | nopSync | mfhi | mthi | mflo
  | mtlo | dsllv | dsrlv | dsrav | mult | multu | div | divu | dmult | dmultu | ddiv | ddivu | add | move | addu
  | sub | subu | and | or | xor | nor | slt | sltu | dadd | daddu | dsub | dsubu | tge | tgeu | tlt | tltu | teq
  | tne | dsll | dsrl | dsra | dsll32 | dsrl32 | dsra32 => exact .inl ⟨_, _, rfl⟩
  | addi | addiu | slti | sltiu | andi | ori | xori | lui | daddi | daddiu | lb | lh | lwl | lw | lbu | lhu | lwr
  | lwu | sb | sh | swl | sw | swr | cache | lwc1 | ldc1 | ld | swc1 | sdc1 | tgei | tgeiu | tlti | tltiu | teqi
  | tnei | addFmt | subFmt | mulFmt | divFmt | sqrtFmt | negFmt | roundWFmt | truncWFmt | ceilWFmt | floorWFmt
  | cvtSFmt | cvtDFmt | cvtWFmt | cCondFmt | mfc0 | dmfc0 | cfc0 | mtc0 | dmtc0 | ctc0 | mfc1 | dmfc1 | cfc1
  | mtc1 | dmtc1 | ctc1 | mfc2 | dmfc2 | cfc2 | mtc2 | dmtc2 | ctc2 => exact .inr (.inl ⟨_, rfl⟩)
  | beq | bne | blez | bgtz | beql | bnel | bltz | bgez | bltzl | bgezl | bltzal | bgezal | bltzall | bgezall
  | bc0f | bc0t | bc0fl | bc0tl | bc1f | bc1t | bc1fl | bc1tl | bc2f | bc2t | bc2fl | bc2tl =>
    exact .inr (.inr (.inl ⟨_, _, _, rfl⟩))
  | j | jal => exact .inr (.inr (.inr ⟨_, _, rfl⟩))

/-- An instruction that answers a next state has accepted a result that holds its own word (R363, R365). -/
theorem exec_next_acceptedStep {i : Instr} {s t : State} (h : exec i s = .next t) :
    ∃ insn jumps branches, insn.w = encode i ∧ AcceptedStep s t insn jumps branches := by
  obtain ⟨mn, via, he⟩ | ⟨mn, he⟩ | ⟨mn, imm, ubranch, he⟩ | ⟨mn, target, he⟩ := exec_cases i s
  · exact ⟨_, _, _, rfl, acceptR_next (he.symm.trans h)⟩
  · exact ⟨_, _, _, rfl, acceptI_next (he.symm.trans h)⟩
  · exact ⟨_, _, _, rfl, acceptBranch_next (he.symm.trans h)⟩
  · exact ⟨_, _, _, rfl, acceptJ_next (he.symm.trans h)⟩

/-- Settles O55: `exec` accepts the instruction's word in one of four ways, and each moves only what an accepted
step moves. -/
theorem instructionFrame : Obligations.InstructionFrame := by
  intro i s t h
  obtain ⟨insn, jumps, branches, hw, acc⟩ := exec_next_acceptedStep h
  exact ⟨⟨_, acc.records, rfl, rfl, hw, hw⟩, acc.programCounter, acc.offset, acc.fsm, acc.boundaryValid,
    acc.boundaryOffset, acc.binaryStart, acc.freeIndex, acc.inputs⟩

end Sys2Proof.Machine
end

section
/-! SUPPORT for the statements about the step. The machine's decoder, which answers instructions, and the decoder over
`T_default`, which answers results, say the same of every word; so what a step can do is said in the profile's terms
(`step_next_cases`), and later proofs unfold neither decoder. Last, what an accepted result holds in any profile. -/

namespace Sys2Proof.Machine

/-! ### When the two decoders agree -/

/-- The decoder of the machine and the decoder over `T_default` say the same of a word at address `pc`: the same
reject class, or an instruction that does what accepting the profile's result does (R350, R363). -/
def DecodersAgree (pc : Word32) : Except RejectClass Instr → DecodeResult → Prop
  | .ok i, d => ∃ insn, d = .accepted insn ∧ ∀ s : State, s.programCounter = pc → exec i s = .next (s.accepted insn)
  | .error c, d => d = .rejected c

/-! ### One lemma per way to answer -/

/-- Both decoders make the required-zero test before anything is accepted (R93, R96). -/
theorem DecodersAgree.ofZeroTest {pc : Word32} {zero broken : Bool} {i : Instr} {d : DecodeResult}
    (hb : broken = !zero) (h : zero = true → DecodersAgree pc (.ok i) d) :
    DecodersAgree pc (requireZero zero i) (if broken then .rejected .malformedEncoding else d) := by
  subst hb
  cases zero with
  | true => exact h rfl
  | false => rfl

/-- An R-form result under its table mnemonic or another name: no target (R148). -/
theorem DecodersAgree.ofAcceptR {pc w : Word32} {mn : Mnemonic} {via : Option Mnemonic} {i : Instr}
    (hx : ∀ s, exec i s = acceptR mn via (encode i) s) (hw : encode i = w) :
    DecodersAgree pc (.ok i) (.accepted ⟨mn, .R, w, none, via, false⟩) :=
  ⟨_, rfl, fun s _ => by rw [hx, hw]; rfl⟩

/-- An I-form result without a target (R219). -/
theorem DecodersAgree.ofAcceptI {pc w : Word32} {mn : Mnemonic} {i : Instr}
    (hx : ∀ s, exec i s = acceptI mn (encode i) s) (hw : encode i = w) :
    DecodersAgree pc (.ok i) (acceptedPlain mn w false) :=
  ⟨_, rfl, fun s _ => by rw [hx, hw]; rfl⟩

/-- A branch-class result: its target counts from the address of the word (R212). -/
theorem DecodersAgree.ofAcceptBranch {pc w : Word32} {mn : Mnemonic} {ubranch : Bool} {i : Instr}
    (hx : ∀ s, exec i s = acceptBranch mn (encode i) (immOf w) ubranch s) (hw : encode i = w) :
    DecodersAgree pc (.ok i) (acceptedBranch mn w pc ubranch) :=
  ⟨_, rfl, fun s hpc => by rw [hx, hw, ← hpc]; rfl⟩

/-- Both decoders test the same field and go on with another name or with the table's own mnemonic. -/
theorem DecodersAgree.ite {pc : Word32} {p q : Prop} [Decidable p] [Decidable q] {i j : Instr} {d e : DecodeResult}
    (hpq : p ↔ q) (ht : q → DecodersAgree pc (.ok i) d) (hf : ¬ q → DecodersAgree pc (.ok j) e) :
    DecodersAgree pc (.ok (if p then i else j)) (if q then d else e) := by
  by_cases hq : q
  · rw [if_pos (hpq.mpr hq), if_pos hq]
    exact ht hq
  · rw [if_neg (mt hpq.mp hq), if_neg hq]
    exact hf hq

/-! ### R-form -/

/-- An R-table entry whose result is never renamed. -/
theorem DecodersAgree.rPlain {w pc : Word32} {mn : Mnemonic} {zero : List ZeroField} {z : Bool} {i : Instr}
    (hx : ∀ s, exec i s = acceptR mn none (encode i) s)
    (hl : tDefault.rTable.lookup (functOf w) = some (rEntry mn zero .plain))
    (hz : patternBroken zero w = !z) (hw : z = true → encode i = w) :
    DecodersAgree pc (requireZero z i) (tDefault.rDecode w) := by
  simp only [Profile.rDecode, hl, rEntry, reduceCtorEq, false_and, if_false]
  exact .ofZeroTest hz fun h => .ofAcceptR hx (hw h)

/-- R-decode, entry by entry (R141, R150 to R202). In each arm the fields that the selector and the zero test fix are
put into the view of the word, which is then the word of the instruction. -/
theorem rDecode_agrees {w : Word32} (pc : Word32) (hop : opcodeOf w = 0#6) :
    DecodersAgree pc (rDecode w) (tDefault.rDecode w) := by
  unfold rDecode
  split
  case h_1 hf => -- `sll` and its no-op
    have hl : tDefault.rTable.lookup (functOf w) = some (rEntry .sll [.rs] .shiftNop) := by rw [hf]; rfl
    simp only [Profile.rDecode, hl, rEntry, reduceCtorEq, false_and, if_false, true_and]
    refine .ofZeroTest (by simp [patternBroken, ZeroField.value, bne]) fun hz => ?_
    rw [beq_iff_eq] at hz
    refine .ite beq_iff_eq (fun hs => ?_) (fun _ => ?_)
    · exact .ofAcceptR (fun _ => rfl) (by simpa [hop, hf, hz, hs, encode] using rWord_view w)
    · exact .ofAcceptR (fun _ => rfl) (by simpa [hop, hf, hz, encode] using rWord_view w)
  case h_28 hf => -- `addu` and `move`
    have hl : tDefault.rTable.lookup (functOf w) = some (rEntry .addu [.shamt] .addMove) := by rw [hf]; rfl
    simp only [Profile.rDecode, hl, rEntry, reduceCtorEq, false_and, if_false, true_and]
    refine .ofZeroTest (by simp [patternBroken, ZeroField.value, bne]) fun hz => ?_
    rw [beq_iff_eq] at hz
    refine .ite beq_iff_eq (fun ht => ?_) (fun _ => ?_)
    · exact .ofAcceptR (fun _ => rfl) (by simpa [hop, hf, hz, ht, encode] using rWord_view w)
    · exact .ofAcceptR (fun _ => rfl) (by simpa [hop, hf, hz, encode] using rWord_view w)
  case h_11 hf => -- the sync class
    have hl : tDefault.rTable.lookup (functOf w) = some (rEntry .sync [] .syncClass) := by rw [hf]; rfl
    simp only [Profile.rDecode, hl, rEntry, if_true]
    exact .ofAcceptR (fun _ => rfl) (by simpa [hop, hf, encode] using codeWord_view w)
  case h_9 hf | h_10 hf => -- `syscall`, `break`
    exact .rPlain (z := true) (fun _ => rfl) (by rw [hf]; rfl) rfl
      fun _ => by simpa [hop, hf, encode] using codeWord_view w
  case h_41 hf | h_42 hf | h_43 hf | h_44 hf | h_45 hf | h_46 hf => -- the traps
    exact .rPlain (z := true) (fun _ => rfl) (by rw [hf]; rfl) rfl
      fun _ => by simpa [hop, hf, encode] using trapWord_view w
  case h_53 => -- no entry
    have hl : tDefault.rTable.lookup (functOf w) = none := by
      simp_all [tDefault, defaultRTable, List.lookup_eq_none_iff]
    simp only [Profile.rDecode, hl]
    rfl
  all_goals
    next hf =>
    refine .rPlain (fun _ => rfl) (by rw [hf]; rfl) (by simp [patternBroken, ZeroField.value, bne, Bool.or_assoc])
      fun hz => ?_
    simp only [Bool.and_eq_true, beq_iff_eq] at hz
    simpa [hop, hf, hz, encode] using rWord_view w

/-! ### The regimm family -/

/-- A regimm entry of the branch class (R260). -/
theorem DecodersAgree.regimmBranch {w pc : Word32} {mn : Mnemonic} {i : Instr}
    (hx : ∀ s, exec i s = acceptBranch mn (encode i) (immOf w) false s)
    (hl : tDefault.regimmTable.lookup (rtOf w) = some ⟨mn, .branch, []⟩) (hw : encode i = w) :
    DecodersAgree pc (.ok i) (tDefault.regimmDecode w pc) := by
  simp only [Profile.regimmDecode, hl, patternBroken_nil, Bool.false_eq_true, if_false, if_true]
  exact .ofAcceptBranch hx hw

/-- A regimm entry of the trap class (R260). -/
theorem DecodersAgree.regimmTrap {w pc : Word32} {mn : Mnemonic} {i : Instr}
    (hx : ∀ s, exec i s = acceptI mn (encode i) s)
    (hl : tDefault.regimmTable.lookup (rtOf w) = some ⟨mn, .trapImmediate, []⟩) (hw : encode i = w) :
    DecodersAgree pc (.ok i) (tDefault.regimmDecode w pc) := by
  simp only [Profile.regimmDecode, hl, patternBroken_nil, Bool.false_eq_true, if_false, reduceCtorEq]
  exact .ofAcceptI hx hw

/-- The regimm family, entry by entry (R261 to R275). -/
theorem regimmDecode_agrees {w : Word32} (pc : Word32) (hop : opcodeOf w = 1#6) :
    DecodersAgree pc (regimmDecode w) (tDefault.regimmDecode w pc) := by
  unfold regimmDecode
  split
  case h_1 ht | h_2 ht | h_3 ht | h_4 ht | h_11 ht | h_12 ht | h_13 ht | h_14 ht => -- the branches
    exact .regimmBranch (fun _ => rfl) (by rw [ht]; rfl) (by simpa [hop, ht, encode] using iWord_view w)
  case h_5 ht | h_6 ht | h_7 ht | h_8 ht | h_9 ht | h_10 ht => -- the traps
    exact .regimmTrap (fun _ => rfl) (by rw [ht]; rfl) (by simpa [hop, ht, encode] using iWord_view w)
  case h_15 => -- no entry
    have hl : tDefault.regimmTable.lookup (rtOf w) = none := by
      simp_all [tDefault, defaultRegimmTable, List.lookup_eq_none_iff]
    simp only [Profile.regimmDecode, hl]
    rfl

/-! ### The coprocessor cascade -/

/-- The opcode of each coprocessor id in `T_default` (R280). -/
def copOpcode : CopId → BitVec 6
  | .cop0 => 16#6
  | .cop1 => 17#6
  | .cop2 => 18#6

/-- A matched coprocessor entry decides the word (R280, R287). -/
theorem Profile.copDecode_of_copMatch {T : Profile} {z : CopId} {w : Word32} {step : CopStep} {e : CopEntry}
    (pc : Word32) (hm : T.copMatch z w = some (step, e)) :
    T.copDecode z w pc =
      if copMalformed step e w then .rejected .malformedEncoding
      else if step = .branch then acceptedBranch e.mn w pc false
      else acceptedPlain e.mn w false := by
  simp only [Profile.copDecode, hm]

/-- The branches of `T_default` are those of the mnemonic table (R124, R281). -/
theorem branchTable_get (z : CopId) (sel : BitVec 2) :
    (tDefault.branchTable.get z).get sel = copEntry (copBranchMnemonic z sel) [] := by
  cases z <;> revert sel <;> decide

/-- The four values of the two selecting bits, as the decoder's last arm needs them (R281). -/
theorem select_eq_three {sel : BitVec 2} (h0 : sel ≠ 0#2) (h1 : sel ≠ 1#2) (h2 : sel ≠ 2#2) : sel = 3#2 := by
  revert sel
  decide

/-- Each of the twelve coprocessor branches runs as a branch that is never marked (R290 to R301). -/
theorem exec_copBranchDecode (z : CopId) (w : Word32) (s : State) :
    exec (copBranchDecode z w) s =
      acceptBranch (copBranchMnemonic z (branchSelectOf w)) (encode (copBranchDecode z w)) (immOf w) false s := by
  unfold copBranchDecode
  split
  case h_4 h0 h1 h2 | h_8 h0 h1 h2 | h_12 h0 h1 h2 => -- the last selector of each id
    rw [select_eq_three h0 h1 h2]
    rfl
  all_goals
    next hsel =>
    rw [hsel]
    rfl

/-- Step (a) keeps every bit of the word, the three untested ones too (R281). -/
theorem encode_copBranchDecode {z : CopId} {w : Word32} (hop : opcodeOf w = copOpcode z) (hs : rsOf w = 8#5) :
    encode (copBranchDecode z w) = w := by
  unfold copBranchDecode
  split
  case h_4 h0 h1 h2 | h_8 h0 h1 h2 | h_12 h0 h1 h2 =>
    have hsel := select_eq_three h0 h1 h2
    simpa [hop, hs, hsel, encode, copBranchWord, copOpcode] using copBranchWord_view w
  all_goals
    next hsel => simpa [hop, hs, hsel, encode, copBranchWord, copOpcode] using copBranchWord_view w

/-- Step (a) of the cascade (R281). -/
theorem copBranchDecode_agrees {z : CopId} {w : Word32} (pc : Word32) (hop : opcodeOf w = copOpcode z)
    (hs : rsOf w = 8#5) : DecodersAgree pc (.ok (copBranchDecode z w)) (tDefault.copDecode z w pc) := by
  have hm : tDefault.copMatch z w = some (.branch, copEntry (copBranchMnemonic z (branchSelectOf w)) []) := by
    rw [← branchTable_get]
    exact if_pos hs
  rw [Profile.copDecode_of_copMatch pc hm]
  exact .ofAcceptBranch (exec_copBranchDecode z w) (encode_copBranchDecode hop hs)

/-- An entry of step (b) or (c), which carries no target (R289). -/
theorem DecodersAgree.copPlain {z : CopId} {w pc : Word32} {step : CopStep} {mn : Mnemonic}
    {zero : List CopZeroField} {kept : Bool} {i : Instr} (hx : ∀ s, exec i s = acceptI mn (encode i) s)
    (hm : tDefault.copMatch z w = some (step, copEntry mn zero)) (hstep : step ≠ .branch)
    (hz : copMalformed step (copEntry mn zero) w = !kept) (hw : kept = true → encode i = w) :
    DecodersAgree pc (requireZero kept i) (tDefault.copDecode z w pc) := by
  rw [Profile.copDecode_of_copMatch pc hm, if_neg hstep]
  exact .ofZeroTest hz fun h => .ofAcceptI hx (hw h)

/-- An entry of the move set, its low eleven bits required zero (R286). -/
theorem DecodersAgree.copMove {z : CopId} {w pc : Word32} {mn : Mnemonic} {i : Instr}
    (hc : tDefault.copMatch z w = tDefault.moveMatch z w) (hx : ∀ s, exec i s = acceptI mn (encode i) s)
    (hl : (tDefault.moveTable.get z).lookup (rsOf w) = some (copEntry mn []))
    (hw : immLow11Of w = 0#11 → encode i = w) :
    DecodersAgree pc (requireZero (immLow11Of w == 0) i) (tDefault.copDecode z w pc) := by
  have hm : tDefault.copMatch z w = some (.move, copEntry mn []) := by
    rw [hc, Profile.moveMatch, hl]
    rfl
  exact .copPlain hx hm (by decide) (by simp [copMalformed, copEntry, bne]) fun h => hw (by simpa using h)

/-- The keys of the three move sets (R286). -/
theorem moveTable_lookup_eq_none {z : CopId} {rs : BitVec 5}
    (h : ∀ key ∈ ([0, 1, 2, 4, 5, 6] : List (BitVec 5)), rs ≠ key) :
    (tDefault.moveTable.get z).lookup rs = none := by
  cases z <;> simp_all [tDefault, defaultMoveTable, moveSet, ById.get, List.lookup_eq_none_iff]

/-- Step (c) of the cascade, on a word that the steps before it leave to it (R286). -/
theorem copMoveDecode_agrees {z : CopId} {w : Word32} (pc : Word32) (hop : opcodeOf w = copOpcode z)
    (hc : tDefault.copMatch z w = tDefault.moveMatch z w) :
    DecodersAgree pc (copMoveDecode z w) (tDefault.copDecode z w pc) := by
  have hz : z = .cop0 ∨ z = .cop1 ∨ z = .cop2 := by cases z <;> decide
  unfold copMoveDecode
  split
  case h_19 => -- no entry
    have hr : ∀ key ∈ ([0, 1, 2, 4, 5, 6] : List (BitVec 5)), rsOf w ≠ key := by
      obtain rfl | rfl | rfl := hz <;> simp_all
    simp only [Profile.copDecode, hc, Profile.moveMatch, moveTable_lookup_eq_none hr, Option.map_none]
    rfl
  all_goals
    next hr =>
    refine .copMove hc (fun _ => rfl) (by rw [hr]; rfl) fun hl => ?_
    simpa [hop, hr, hl, encode, copMoveWord, copOpcode] using copMoveWord_view w

/-- The gate of `T_default` is the top bit of `rs` (R282). -/
theorem floatGate_eq (w : Word32) : tDefault.floatGate .cop1 w = floatGateOf w := by
  have h : ∀ r : BitVec 5, ((r &&& 16#5) == 16#5) = r.getLsbD 4 := by decide
  rw [floatGateOf_eq, ← h]
  rfl

/-- Off coprocessor 1, or without the top bit of `rs`, the gate is shut (R282). -/
theorem floatGate_eq_false {z : CopId} {w : Word32} (h : z = .cop1 → floatGateOf w = true → False) :
    tDefault.floatGate z w = false := by
  cases z with
  | cop0 | cop2 => rfl
  | cop1 => rw [floatGate_eq]; simpa using h rfl

/-- Behind the gate, what step (b) matches decides the word (R283, R284). -/
theorem copMatch_of_floatMatch {w : Word32} {e : CopEntry} (hs : rsOf w ≠ tDefault.branchSentinel)
    (hg : floatGateOf w = true)
    (hm : tDefault.floatMatch w = some e) : tDefault.copMatch .cop1 w = some (.floating, e) := by
  rw [Profile.copMatch, if_neg hs, floatGate_eq, if_pos hg, hm]

/-- Step (b) of the cascade, behind its gate, and step (c) for the words it leaves (R282 to R285). -/
theorem floatDecode_agrees {w : Word32} (pc : Word32) (hop : opcodeOf w = 17#6)
    (hs : rsOf w ≠ tDefault.branchSentinel) (hg : floatGateOf w = true) :
    DecodersAgree pc ((floatDecode w).getD (copMoveDecode .cop1 w)) (tDefault.copDecode .cop1 w pc) := by
  have match_of_lookup {e : CopEntry} (hl : tDefault.floatTable.lookup (functOf w) = some e) :
      tDefault.copMatch .cop1 w = some (.floating, e) :=
    copMatch_of_floatMatch hs hg (by rw [Profile.floatMatch, hl])
  have hrs := rsOf_of_gate w hg
  unfold floatDecode
  split
  case h_1 hf | h_2 hf | h_3 hf | h_4 hf => -- two operands
    exact .copPlain (kept := true) (fun _ => rfl) (match_of_lookup (by rw [hf]; rfl)) (by decide) rfl
      fun _ => by simpa [hop, hf, hrs, encode, floatWord] using rWord_view w
  case h_14 => -- no function code: the compare window, or step (c)
    have hl : tDefault.floatTable.lookup (functOf w) = none := by
      simp_all [tDefault, defaultFloatTable, List.lookup_eq_none_iff]
    split
    · next hc =>
      rw [beq_iff_eq] at hc
      have hm : tDefault.floatMatch w = some (copEntry .cCondFmt []) := by
        simp only [Profile.floatMatch, hl]
        exact if_pos hc
      exact .copPlain (kept := true) (fun _ => rfl) (copMatch_of_floatMatch hs hg hm) (by decide) rfl
        fun _ => by simpa [hop, hc, hrs, encode, compareWord] using compareWord_view w
    · next hc =>
      rw [beq_iff_eq] at hc
      have hm : tDefault.floatMatch w = none := by
        simp only [Profile.floatMatch, hl]
        exact if_neg hc
      refine copMoveDecode_agrees pc hop ?_
      rw [Profile.copMatch, if_neg hs, floatGate_eq, if_pos hg, hm]
  all_goals -- one operand, `ft` required zero
    next hf =>
    refine .copPlain (fun _ => rfl) (match_of_lookup (by rw [hf]; rfl)) (by decide)
      (by simp [copMalformed, copPatternBroken, CopZeroField.isZero, copEntry]) fun hz => ?_
    rw [beq_iff_eq] at hz
    simpa [hop, hf, hz, hrs, encode, floatWord] using rWord_view w

/-- The cascade: the three steps in order (R280). -/
theorem copDecode_agrees {z : CopId} {w : Word32} (pc : Word32) (hop : opcodeOf w = copOpcode z) :
    DecodersAgree pc (copDecode z w) (tDefault.copDecode z w pc) := by
  unfold copDecode
  split
  · next hs => exact copBranchDecode_agrees pc hop (by simpa using hs)
  · next hs =>
    have hs : rsOf w ≠ tDefault.branchSentinel := fun h => hs (beq_iff_eq.mpr h)
    split
    · next hg => exact floatDecode_agrees pc hop hs hg
    · next hg =>
      refine copMoveDecode_agrees pc hop ?_
      rw [Profile.copMatch, if_neg hs, floatGate_eq_false hg, if_neg Bool.false_ne_true]

/-! ### I-form -/

/-- A direct entry that is no branch (R215, R219). -/
theorem DecodersAgree.iPlain {w pc : Word32} {mn : Mnemonic} {cls : IClass} {zero : List ZeroField}
    {likely kept : Bool} {i : Instr} (hx : ∀ s, exec i s = acceptI mn (encode i) s)
    (hl : tDefault.iTable.lookup (opcodeOf w) = some (.direct mn cls zero likely)) (hc : cls.isBranch = false)
    (hu : unconditionalWord w = false) (hz : patternBroken zero w = !kept) (hw : kept = true → encode i = w) :
    DecodersAgree pc (requireZero kept i) (tDefault.iDecode w pc) := by
  simp only [Profile.iDecode, hl, hc, hu, Bool.false_eq_true, if_false]
  exact .ofZeroTest hz fun h => .ofAcceptI hx (hw h)

/-- A direct entry of a branch class (R212, R214). -/
theorem DecodersAgree.iBranch {w pc : Word32} {mn : Mnemonic} {cls : IClass} {zero : List ZeroField}
    {likely kept : Bool} {i : Instr}
    (hx : ∀ s, exec i s = acceptBranch mn (encode i) (immOf w) (unconditionalWord w) s)
    (hl : tDefault.iTable.lookup (opcodeOf w) = some (.direct mn cls zero likely)) (hc : cls.isBranch = true)
    (hz : patternBroken zero w = !kept) (hw : kept = true → encode i = w) :
    DecodersAgree pc (requireZero kept i) (tDefault.iDecode w pc) := by
  simp only [Profile.iDecode, hl, hc, if_true]
  exact .ofZeroTest hz fun h => .ofAcceptBranch hx (hw h)

/-- The three opcodes of coprocessor access (R280). -/
theorem DecodersAgree.iCop {z : CopId} {w pc : Word32} (hop : opcodeOf w = copOpcode z) :
    DecodersAgree pc (copDecode z w) (tDefault.iDecode w pc) := by
  have hl : tDefault.iTable.lookup (opcodeOf w) = some (.cop z) := by
    rw [hop]
    cases z <;> rfl
  simp only [Profile.iDecode, hl]
  exact copDecode_agrees pc hop

/-- Only opcode 4 can carry the mark (R214). -/
theorem unconditionalWord_of_ne {w : Word32} (h : opcodeOf w ≠ 4#6) : unconditionalWord w = false := by
  simp [unconditionalWord, h]

/-- Under opcode 4 the mark is set by the two register fields (R214). -/
theorem unconditionalWord_of_eq {w : Word32} (h : opcodeOf w = 4#6) :
    unconditionalWord w = isUnconditional (rsOf w) (rtOf w) := by
  simp [unconditionalWord, h]

/-- I-decode, opcode by opcode (R211, R220 to R255). -/
theorem iDecode_agrees (w pc : Word32) : DecodersAgree pc (iDecode w) (tDefault.iDecode w pc) := by
  unfold iDecode
  split
  case h_1 hop =>
    have hl : tDefault.iTable.lookup (opcodeOf w) = some .regimm := by rw [hop]; rfl
    simp only [Profile.iDecode, hl]
    exact regimmDecode_agrees pc hop
  case h_2 hop | h_3 hop | h_4 hop => exact .iCop hop
  case h_5 hop => -- `beq`, which alone can be unconditional
    exact .iBranch (kept := true) (fun _ => by rw [unconditionalWord_of_eq hop]; rfl) (by rw [hop]; rfl) rfl rfl
      fun _ => by simpa [hop, encode] using iWord_view w
  case h_6 hop | h_17 hop | h_18 hop => -- `bne`, `beql`, `bnel`
    exact .iBranch (kept := true) (fun _ => by rw [unconditionalWord_of_ne (by simp [hop])]; rfl)
      (by rw [hop]; rfl) rfl rfl
      fun _ => by simpa [hop, encode] using iWord_view w
  case h_7 hop | h_8 hop => -- `blez`, `bgtz`
    refine .iBranch (fun _ => by rw [unconditionalWord_of_ne (by simp [hop])]; rfl) (by rw [hop]; rfl) rfl
      (by simp [patternBroken, ZeroField.value, bne]) fun hz => ?_
    rw [beq_iff_eq] at hz
    simpa [hop, hz, encode] using iWord_view w
  case h_16 hop => -- `lui`
    refine .iPlain (fun _ => rfl) (by rw [hop]; rfl) rfl (unconditionalWord_of_ne (by simp [hop]))
      (by simp [patternBroken, ZeroField.value, bne]) fun hz => ?_
    rw [beq_iff_eq] at hz
    simpa [hop, hz, encode] using iWord_view w
  case h_40 => -- no entry
    have hl : tDefault.iTable.lookup (opcodeOf w) = none := by
      simp_all [tDefault, defaultITable, List.lookup_eq_none_iff]
    simp only [Profile.iDecode, hl]
    rfl
  all_goals
    next hop =>
    exact .iPlain (kept := true) (fun _ => rfl) (by rw [hop]; rfl) rfl (unconditionalWord_of_ne (by simp [hop])) rfl
      fun _ => by simpa [hop, encode] using iWord_view w

/-! ### The whole decoder -/

/-- The two jumps: the target counts from the address of the word (R341). -/
theorem DecodersAgree.jump {w pc : Word32} {mn : Mnemonic} {i : Instr}
    (hx : ∀ s, exec i s = acceptJ mn (encode i) (targetOf w) s)
    (hd : tDefault.decode w pc = .accepted (resultJump mn w pc (targetOf w))) (hw : encode i = w) :
    DecodersAgree pc (.ok i) (tDefault.decode w pc) :=
  ⟨_, hd, fun s hpc => by rw [hx, hw, ← hpc]; rfl⟩

/-- The machine's decoder is the spec's over `T_default`, and `exec` does what an accepted word does (R350, R363). -/
theorem decode_agrees (w pc : Word32) : DecodersAgree pc (decode w) (tDefault.decode w pc) := by
  unfold decode
  split
  case h_1 hop =>
    have hr : tDefault.route (opcodeOf w) = .R := by rw [hop]; rfl
    simp only [Profile.decode, hr]
    exact rDecode_agrees pc hop
  case h_2 hop | h_3 hop =>
    refine .jump (fun _ => rfl) ?_ (by simpa [hop, encode] using jWord_view w)
    simp only [Profile.decode, Profile.jDecode, hop]
    rfl
  case h_4 h0 h2 h3 =>
    have hr : tDefault.route (opcodeOf w) = .I := (if_neg h0).trans (if_neg (not_or.mpr ⟨h2, h3⟩))
    simp only [Profile.decode, hr]
    exact iDecode_agrees w pc

/-- What the machine does with an instruction it decoded: it accepts the profile's result (R363). -/
theorem exec_of_decode {w : Word32} {i : Instr} (h : decode w = .ok i) (s : State) :
    ∃ insn, tDefault.decode w s.programCounter = .accepted insn ∧ exec i s = .next (s.accepted insn) := by
  have agree := decode_agrees w s.programCounter
  rw [h] at agree
  obtain ⟨insn, hd, hx⟩ := agree
  exact ⟨insn, hd, hx s rfl⟩

/-- A word the machine's decoder rejects is rejected by the profile's, with the same class (R355). -/
theorem rejected_of_decode {w : Word32} {c : RejectClass} (h : decode w = .error c) (pc : Word32) :
    tDefault.decode w pc = .rejected c := by
  have agree := decode_agrees w pc
  rwa [h] at agree

/-! ### What a step can do -/

/-- All that a step can do, in the terms of `T_default`: nothing once halted, the transition into Halted at the end of
the data or on a rejected word, or the acceptance of the word at the read offset (R363 to R367, R370). -/
theorem step_next_cases {s t : State} (h : step s = .next t) :
    (s.fsm = .halted ∧ t = s) ∨
      ((AtEndOfData s ∨ ∃ w c, Reads s w ∧ tDefault.decode w s.programCounter = .rejected c) ∧ t = s.haltScan) ∨
      ∃ w insn, Reads s w ∧ tDefault.decode w s.programCounter = .accepted insn ∧ t = s.accepted insn := by
  cases hf : s.fsm with
  | halted =>
    rw [step_of_halted hf] at h
    cases h
    exact .inl ⟨rfl, rfl⟩
  | scanning =>
    obtain ⟨he, hs⟩ | ⟨w, hw, ⟨c, hd, hs⟩ | ⟨i, hd, hs⟩⟩ := step_scanning_cases s hf <;> rw [hs] at h
    · cases h
      exact .inr (.inl ⟨.inl ⟨hf, endOfData_eq_true.mp he⟩, rfl⟩)
    · cases h
      exact .inr (.inl ⟨.inr ⟨w, c, ⟨hf, hw⟩, rejected_of_decode hd _⟩, rfl⟩)
    · obtain ⟨insn, ha, hx⟩ := exec_of_decode hd s
      rw [hx] at h
      cases h
      exact .inr (.inr ⟨w, insn, ⟨hf, hw⟩, ha, rfl⟩)

/-! ### What an accepted result holds, over any profile -/

/-- An accepted result holds its own word, and only a J-form result, which is never marked, counts as a jump (R12,
R214, R368). -/
structure ResultOf (w : Word32) (insn : Insn) : Prop where
  word : insn.w = w
  oneCounter : countsJump insn = true → countsBranch insn = false

/-- An R-form result (R148). -/
theorem ResultOf.rForm (mn : Mnemonic) (w : Word32) (via : Option Mnemonic) :
    ResultOf w ⟨mn, .R, w, none, via, false⟩ := ⟨rfl, fun _ => rfl⟩

/-- An I-form result without a target (R219). -/
theorem ResultOf.of_acceptedPlain {mn : Mnemonic} {w : Word32} {u : Bool} {insn : Insn}
    (h : acceptedPlain mn w u = .accepted insn) : ResultOf w insn := by
  cases h
  exact ⟨rfl, nofun⟩

/-- An I-form result with a target (R212, R219). -/
theorem ResultOf.of_acceptedBranch {mn : Mnemonic} {w pc : Word32} {u : Bool} {insn : Insn}
    (h : acceptedBranch mn w pc u = .accepted insn) : ResultOf w insn := by
  cases h
  exact ⟨rfl, nofun⟩

/-- The two ways to accept an I-form word (R219). -/
theorem ResultOf.of_iForm {c : Prop} [Decidable c] {mn : Mnemonic} {w pc : Word32} {u : Bool} {insn : Insn}
    (h : (if c then acceptedBranch mn w pc u else acceptedPlain mn w u) = .accepted insn) : ResultOf w insn := by
  split at h
  · exact .of_acceptedBranch h
  · exact .of_acceptedPlain h

/-- R-decode accepts nothing but R-form results (R141). -/
theorem Profile.rDecode_result {T : Profile} {w : Word32} {insn : Insn} (h : T.rDecode w = .accepted insn) :
    ResultOf w insn := by
  unfold Profile.rDecode at h
  split at h
  · cases h
  · split_ifs at h <;> cases h <;> exact .rForm _ _ _

/-- I-decode accepts nothing but I-form results, from any of its three families (R211). -/
theorem Profile.iDecode_result {T : Profile} {w pc : Word32} {insn : Insn} (h : T.iDecode w pc = .accepted insn) :
    ResultOf w insn := by
  unfold Profile.iDecode at h
  split at h
  · cases h
  · obtain ⟨-, hd⟩ | ⟨e, -, ⟨-, hd⟩ | ⟨-, hd⟩⟩ := T.regimmDecode_cases w pc <;> rw [hd] at h
    · cases h
    · cases h
    · exact .of_iForm h
  · next z _ =>
    obtain ⟨-, hd⟩ | ⟨step, e, -, ⟨-, hd⟩ | ⟨-, hd⟩⟩ := T.copDecode_cases z w pc <;> rw [hd] at h
    · cases h
    · cases h
    · exact .of_iForm h
  · split at h
    · cases h
    · exact .of_iForm h

/-- Every accepted word, in every profile. -/
theorem Profile.decode_result {T : Profile} {w pc : Word32} {insn : Insn} (h : T.decode w pc = .accepted insn) :
    ResultOf w insn := by
  unfold Profile.decode at h
  split at h
  · exact Profile.rDecode_result h
  · cases h
    exact ⟨rfl, fun _ => rfl⟩
  · exact Profile.iDecode_result h

end Sys2Proof.Machine
end

section
/-! The proofs of O29, O30, O31, O33 and O60: each follows what `step_next_cases` says a step can do, and the scan
invariant is kept case by case. -/

namespace Sys2Proof.Machine

/-- Settles O31: a step halts, or accepts a word, or does nothing, and an instruction accepts its word; none of these
touches an input. -/
theorem inputsHeldConstant : Obligations.InputsHeldConstant := by
  constructor
  · intro s t h
    obtain ⟨-, rfl⟩ | ⟨-, rfl⟩ | ⟨w, insn, -, -, rfl⟩ := step_next_cases h
    · exact .refl _
    · exact (haltedStep_haltScan s).inputs
    · exact (acceptedStep_accepted s insn).inputs
  · intro i s t h
    obtain ⟨insn, jumps, branches, -, acc⟩ := exec_next_acceptedStep h
    exact acc.inputs

/-! ### Where a scan starts -/

/-- A scan that starts has no record, and stands at its own scan start (R33). -/
theorem scanInvariant_startScan (s : State) : ScanInvariant s.startScan where
  offset_eq := by simp
  programCounter_eq := by simp
  jumpCount_eq := by simp
  branchCount_eq := by simp
  offset_le := id
  halted_valid := nofun
  halted_boundary := nofun
  scanning_invalid _ := rfl
  records_replay k r h := by simp at h

/-- Settles O29: no word has been accepted, so every count is zero; the state after power-on is such a start. -/
theorem scanInvariantAtStart : Obligations.ScanInvariantAtStart :=
  ⟨scanInvariant_startScan, scanInvariant_startScan State.reset⟩

/-! ### What the invariant bounds -/

/-- Of marks that no element has both, a list has at most as many as it has elements. -/
theorem countP_add_countP_le {α : Type} {p q : α → Bool} {l : List α} (h : ∀ a ∈ l, p a = true → q a = false) :
    l.countP p + l.countP q ≤ l.length := by
  have hq : l.countP q ≤ l.countP (fun a => !p a) :=
    List.countP_mono_left fun a ha hqa => by
      cases hp : p a with
      | false => rfl
      | true => rw [h a ha hp] at hqa; exact hqa
  rw [List.length_eq_countP_add_countP p]
  simpa using hq

/-- Each record of a scan is an accepted result, and so counts in one counter at most. -/
theorem ScanInvariant.counts_le {s : State} (inv : ScanInvariant s) :
    s.jumpCount.toNat + s.branchCount.toNat ≤ s.records.length := by
  rw [inv.jumpCount_eq, inv.branchCount_eq]
  refine countP_add_countP_le fun r hr => ?_
  obtain ⟨k, hk⟩ := List.mem_iff_getElem?.mp hr
  obtain ⟨-, -, -, hd⟩ := inv.records_replay k r hk
  exact (Profile.decode_result hd).oneCounter

/-- Settles O33: a record counts once at most, and the records fill the image from the scan start to the read
offset, four bytes each. -/
theorem countersBounded : Obligations.CountersBounded := by
  intro s inv
  refine ⟨inv.counts_le, fun hstart => ?_⟩
  have hle := inv.offset_le hstart
  have hoff := inv.offset_eq
  have hsize := s.imageSize.isLt
  omega

/-! ### Every step keeps the invariant -/

/-- What a record replays is read from the inputs alone. -/
theorem RecordReplays.of_sameInputs {s t : State} (h : SameInputs s t) {k : Nat} {r : Record}
    (hr : RecordReplays s k r) : RecordReplays t k r := by
  unfold RecordReplays
  rw [h.scanStart, h.entryAddress, imgRead32_congr h.image h.imageSize h.byteOrder]
  exact hr

/-- The transition into Halted moves no count and sets the boundary (R366). -/
theorem ScanInvariant.haltScan {s : State} (inv : ScanInvariant s) : ScanInvariant s.haltScan where
  offset_eq := inv.offset_eq
  programCounter_eq := inv.programCounter_eq
  jumpCount_eq := inv.jumpCount_eq
  branchCount_eq := inv.branchCount_eq
  offset_le := inv.offset_le
  halted_valid _ := ⟨rfl, rfl⟩
  halted_boundary _ h := haltBoundary_of_le h
  scanning_invalid := nofun
  records_replay k r h := (inv.records_replay k r h).of_sameInputs (haltedStep_haltScan s).inputs

/-- A counter that has not reached its width counts without wrap (R431). -/
theorem bumped_toNat {mark : Bool} {c : Word32} (h : c.toNat + 1 < 2 ^ 32) :
    (bumped mark c).toNat = c.toNat + if mark then 1 else 0 := by
  cases mark with
  | false => rfl
  | true =>
    rw [bumped_true]
    simp only [if_true]
    bv_omega

/-- The word at the read offset, accepted, is the next record: it replays at the index of the records so far (R34). -/
theorem ScanInvariant.next_replays {s : State} (inv : ScanInvariant s) {w : Word32} {insn : Insn} (hw : Reads s w)
    (hd : tDefault.decode w s.programCounter = .accepted insn) :
    RecordReplays s s.records.length ⟨s.programCounter, s.offset, insn.w, insn⟩ := by
  obtain ⟨-, hread⟩ := hw
  have hoff : s.offset = s.scanStart + BitVec.ofNat 32 (4 * s.records.length) := by
    have h := inv.offset_eq
    bv_omega
  have hword := (Profile.decode_result hd).word
  exact ⟨hoff, inv.programCounter_eq, hread.trans (congrArg some hword.symm), hword ▸ hd⟩

/-- An accepted word moves the offset, the program counter and the counters by what its one record counts (R365). That
the word lay inside the image keeps the offset from wrapping, and with it the counters. -/
theorem ScanInvariant.accepted {s : State} (inv : ScanInvariant s) {w : Word32} {insn : Insn} (hw : Reads s w)
    (hd : tDefault.decode w s.programCounter = .accepted insn) : ScanInvariant (s.accepted insn) := by
  obtain ⟨hf, hread⟩ := hw
  have hin : s.offset.toNat + 4 ≤ s.imageSize.toNat := (imgRead32_eq_some.mp hread).1
  have hsize := s.imageSize.isLt
  have hoff := inv.offset_eq
  have hcounts := inv.counts_le
  have hoff' : (s.offset + 4#32).toNat = s.offset.toNat + 4 := by bv_omega
  have same := (acceptedStep_accepted s insn).inputs
  constructor
  case offset_eq =>
    simp only [State.accepted_offset, State.accepted_scanStart, State.accepted_records, List.length_append,
      List.length_singleton]
    omega
  case programCounter_eq =>
    simp only [State.accepted_programCounter, State.accepted_entryAddress, State.accepted_records,
      List.length_append, List.length_singleton, inv.programCounter_eq]
    bv_omega
  case jumpCount_eq =>
    simp only [State.accepted_jumpCount, State.accepted_records, List.countP_append, List.countP_singleton]
    rw [bumped_toNat (by omega), inv.jumpCount_eq]
  case branchCount_eq =>
    simp only [State.accepted_branchCount, State.accepted_records, List.countP_append, List.countP_singleton]
    rw [bumped_toNat (by omega), inv.branchCount_eq]
  case offset_le =>
    simp only [State.accepted_offset, State.accepted_imageSize]
    omega
  case halted_valid => simp [hf]
  case halted_boundary => simp [hf]
  case scanning_invalid => exact inv.scanning_invalid
  case records_replay =>
    intro k r hr
    refine RecordReplays.of_sameInputs same ?_
    rw [State.accepted_records, List.getElem?_append] at hr
    split at hr
    · exact inv.records_replay k r hr
    · obtain ⟨hk, rfl⟩ := List.getElem?_eq_some_iff.mp hr
      have hlast : k - s.records.length = 0 := by simpa using hk
      obtain rfl : k = s.records.length := by omega
      simpa using inv.next_replays ⟨hf, hread⟩ hd

/-- Settles O30: of the three things a step can do, halting keeps every count and sets the boundary, and accepting
adds the one record that the offset, the program counter and the counters move for. -/
theorem scanInvariantKept : Obligations.ScanInvariantKept := by
  intro s t inv h
  obtain ⟨-, rfl⟩ | ⟨-, rfl⟩ | ⟨w, insn, hw, hd, rfl⟩ := step_next_cases h
  · exact inv
  · exact inv.haltScan
  · exact inv.accepted hw hd

/-! ### The ports of a halted scanner -/

/-- Halted decodes nothing (R370). -/
theorem decodedNow_of_halted {s : State} (h : s.fsm = .halted) : s.decodedNow = none := by
  simp only [State.decodedNow, h]

/-- Settles O60: a halted scanner decodes nothing, so the ports show its fields, which the invariant describes. -/
theorem portsShowTheBoundary : Obligations.PortsShowTheBoundary := by
  intro s inv hf
  obtain ⟨hvalid, hstart⟩ := inv.halted_valid hf
  have hnone := decodedNow_of_halted hf
  have hbound (h : 4 ≤ s.offset.toNat) : s.boundaryOffset.toNat + 4 = s.offset.toNat := by
    rw [inv.halted_boundary hf h]
    bv_omega
  refine ⟨hvalid, hstart, rfl, hbound, inv.jumpCount_eq, inv.branchCount_eq, ?_, ?_, s, step_of_halted hf, rfl⟩
  · simp only [State.ports, State.recordNow, hnone, Option.bind_none]
  · simp only [State.ports, hnone, Option.map_none]

end Sys2Proof.Machine
end

section
/-! The proofs of O32, O34 and O40. The canonical form is read through `Memory.readByte`: a byte is listed exactly where
it reads as something other than an unlisted byte, so what the image lists follows from the read-after-write laws. -/

namespace Sys2Proof.Machine

/-! ### Which bytes are listed -/

/-- In a canonical list every cell reads back as itself, and not as an unlisted byte (log entry 5). -/
theorem Memory.readByte_of_mem {c : Host.Cell} :
    ∀ {mem : List Host.Cell} {low : Nat}, Memory.wfFrom low mem = true → c ∈ mem →
      Memory.readByte mem c.1 = c.2 ∧ c.2 ≠ Memory.unlisted
  | [], _, _, hc => nomatch hc
  | (a, b) :: rest, _, hw, hc => by
    simp only [Memory.wfFrom, Bool.and_eq_true, decide_eq_true_eq, bne_iff_ne] at hw
    obtain ⟨⟨-, hb⟩, hrest⟩ := hw
    rw [Memory.readByte]
    cases hc with
    | head => exact ⟨if_pos rfl, hb⟩
    | tail _ hc =>
      obtain ⟨hread, hne⟩ := Memory.readByte_of_mem hrest hc
      have ha : c.1 ≠ a := fun h =>
        hne (hread.symm.trans (Memory.readByte_below (by omega) hrest))
      exact ⟨(if_neg ha).trans hread, hne⟩

/-- Only a listed byte reads as something other than an unlisted one. -/
theorem Memory.exists_mem_of_readByte_ne {addr : Nat} :
    ∀ {mem : List Host.Cell}, Memory.readByte mem addr ≠ Memory.unlisted → ∃ c ∈ mem, c.1 = addr
  | [], h => absurd rfl h
  | (a, b) :: rest, h => by
    rw [Memory.readByte] at h
    split at h
    · next ha => exact ⟨(a, b), .head _, ha.symm⟩
    · obtain ⟨c, hc, rfl⟩ := Memory.exists_mem_of_readByte_ne h
      exact ⟨c, .tail _ hc, rfl⟩

/-- An image is sound exactly when it is canonical and reads as unlisted from its size on. -/
theorem imageSound_iff {s : State} :
    ImageSound s ↔
      Memory.wf s.image = true ∧ ∀ a, s.imageSize.toNat ≤ a → Memory.readByte s.image a = Memory.unlisted := by
  refine and_congr_right fun hwf => ⟨fun h a ha => ?_, fun h c hc => ?_⟩
  · by_contra hne
    obtain ⟨c, hc, rfl⟩ := Memory.exists_mem_of_readByte_ne hne
    exact absurd (h c hc) (Nat.not_lt.mpr ha)
  · obtain ⟨hread, hne⟩ := Memory.readByte_of_mem hwf hc
    exact Nat.lt_of_not_le fun hle => hne (hread.symm.trans (h c.1 hle))

/-! ### What keeps the image sound -/

/-- The image of a byte list reads as unlisted past the end of the list (R50). -/
theorem imageSound_ofInputs {bytes : List Byte} (entry start : Word32) (order : ByteOrder)
    (h : bytes.length < 2 ^ 32) : ImageSound (State.ofInputs bytes entry start order) := by
  have hsize : (State.ofInputs bytes entry start order).imageSize.toNat = bytes.length :=
    Nat.mod_eq_of_lt h
  refine imageSound_iff.mpr ⟨Memory.wf_ofBytes bytes, fun a ha => ?_⟩
  rw [hsize] at ha
  exact (Memory.readByte_ofBytes bytes a).trans (List.getD_eq_default _ _ ha)

@[simp] theorem length_wordBytes (order : ByteOrder) (w : Word32) : (wordBytes order w).length = 4 := by
  cases order <;> rfl

/-- A placed word grows the image just as far as it needs to hold the word (log entry 11). -/
theorem withFetchWord_imageSize_toNat {s : State} (nbits w : Nat) (h : s.offset.toNat + 4 < 2 ^ 32) :
    (s.withFetchWord nbits w).imageSize.toNat = max s.imageSize.toNat (s.offset.toNat + 4) := by
  rw [State.withFetchWord_imageSize]
  split
  · rw [BitVec.toNat_ofNat, Nat.mod_eq_of_lt h]
    omega
  · omega

/-- A placed word lies inside the size it grows the image to; every byte past that reads as before. -/
theorem ImageSound.withFetchWord {s : State} (hs : ImageSound s) (nbits w : Nat)
    (h : s.offset.toNat + 4 < 2 ^ 32) : ImageSound (s.withFetchWord nbits w) := by
  obtain ⟨hwf, hout⟩ := imageSound_iff.mp hs
  refine imageSound_iff.mpr ⟨Memory.wf_placed hwf _ _ _, fun a ha => ?_⟩
  rw [withFetchWord_imageSize_toNat nbits w h] at ha
  rw [State.withFetchWord_image, Memory.readByte_writeBytes _ hwf, length_wordBytes, if_neg (by omega)]
  exact hout a (by omega)

/-- Soundness is a property of the inputs alone. -/
theorem ImageSound.of_sameInputs {s t : State} (h : SameInputs s t) (hs : ImageSound s) : ImageSound t := by
  unfold ImageSound
  rw [h.image, h.imageSize]
  exact hs

/-- Settles O32: loading and placing write nothing past the size they give the image, and a step changes no input. -/
theorem imageStaysSound : Obligations.ImageStaysSound :=
  ⟨fun _ entry start order h => imageSound_ofInputs entry start order h,
    fun _ nbits w hs h => hs.withFetchWord nbits w h,
    fun s t hs h => hs.of_sameInputs (inputsHeldConstant.1 s t h)⟩

/-! ### The order of the records -/

/-- The offset of record `k` is `4 * k` past the scan start, without wrap: it lies below the read offset (R34). -/
theorem ScanInvariant.record_offset {s : State} (inv : ScanInvariant s) {k : Nat} {r : Record}
    (h : s.records[k]? = some r) : r.offset.toNat = s.scanStart.toNat + 4 * k := by
  obtain ⟨hoff, -⟩ := inv.records_replay k r h
  obtain ⟨hk, -⟩ := List.getElem?_eq_some_iff.mp h
  have hnext := inv.offset_eq
  rw [hoff]
  bv_omega

/-- Each record stands one word after the one before (R365, R371). -/
theorem ScanInvariant.record_succ {s : State} (inv : ScanInvariant s) {k : Nat} {r r' : Record}
    (h : s.records[k]? = some r) (h' : s.records[k + 1]? = some r') :
    r'.offset.toNat = r.offset.toNat + 4 ∧ r'.programCounter = r.programCounter + 4 := by
  obtain ⟨-, hpc, -⟩ := inv.records_replay k r h
  obtain ⟨-, hpc', -⟩ := inv.records_replay (k + 1) r' h'
  rw [inv.record_offset h, inv.record_offset h', hpc, hpc']
  constructor
  · omega
  · bv_omega

/-- Settles O34: the offset of a record is linear in its index, and the text is the records' image under `render`. -/
theorem recordsInAddressOrder : Obligations.RecordsInAddressOrder := by
  intro s inv
  refine ⟨?_, fun _ _ _ => inv.record_succ, fun _ _ => List.getElem?_map⟩
  refine List.pairwise_iff_getElem.mpr fun i j hi hj hij => ?_
  rw [inv.record_offset (List.getElem?_eq_getElem hi), inv.record_offset (List.getElem?_eq_getElem hj)]
  omega

/-! ### The word the image read assembles -/

/-- Appending weighs the upper part by the width of the lower. -/
theorem toNat_append_eq_add {m n : Nat} (x : BitVec m) (y : BitVec n) :
    (x ++ y).toNat = x.toNat * 2 ^ n + y.toNat := by
  rw [BitVec.toNat_append, ← Nat.shiftLeft_add_eq_or_of_lt y.isLt, Nat.shiftLeft_eq]

/-- An assembled word as a number: its four bytes weighted by the byte order (R52). -/
theorem assembleWord_toNat (order : ByteOrder) (b0 b1 b2 b3 : Byte) :
    (assembleWord order b0 b1 b2 b3).toNat =
      match order with
      | .big => b0.toNat * 2 ^ 24 + b1.toNat * 2 ^ 16 + b2.toNat * 2 ^ 8 + b3.toNat
      | .little => b3.toNat * 2 ^ 24 + b2.toNat * 2 ^ 16 + b1.toNat * 2 ^ 8 + b0.toNat := by
  cases order <;>
    · simp only [assembleWord, toNat_append_eq_add]
      ring

/-- Settles O40: the image read is the end-of-data test, and behind it the assembly of the four bytes. -/
theorem imageReadAssembles : Obligations.ImageReadAssembles := by
  intro s off
  refine ⟨imgRead32_eq_none.trans endOfData_eq_true, fun w hw => ?_⟩
  obtain ⟨-, rfl⟩ := imgRead32_eq_some.mp hw
  exact assembleWord_toNat _ _ _ _ _

end Sys2Proof.Machine
end

section
/-! The proofs of O1, O12, O13 and O14. The words the default profile accepts are sorted once by the shape of their
record (`AcceptedShape`), with one fact about each decode table, checked entry by entry; the three statements about
accepted words read the shape. -/

namespace Sys2Proof

/-! ### The classes of identifiers exclude each other (R99) -/

/-- An identifier of an entry whose result carries neither a target nor another name (R94, R99). -/
def Mnemonic.isPlain (mn : Mnemonic) : Bool :=
  !mn.isBranchClass && !mn.isJumpClass && mn != .nop && mn != .move && mn != .sync

theorem Mnemonic.isPlain_iff {mn : Mnemonic} : mn.isPlain = true ↔
    mn.isBranchClass = false ∧ mn.isJumpClass = false ∧ mn ≠ .nop ∧ mn ≠ .move ∧ mn ≠ .sync := by
  simp [Mnemonic.isPlain, and_assoc]

theorem Mnemonic.isBranchClass_cases {mn : Mnemonic} (h : mn.isBranchClass = true) :
    mn.isJumpClass = false ∧ mn ≠ .nop ∧ mn ≠ .move ∧ mn ≠ .sync := by
  revert h
  cases mn <;> decide

theorem Mnemonic.isJumpClass_iff {mn : Mnemonic} : mn.isJumpClass = true ↔ mn = .j ∨ mn = .jal := by
  simp [Mnemonic.isJumpClass]

end Sys2Proof

namespace Sys2Proof.Machine

/-- Settles O1: a field is a slice of the word, and a slice shifts its lowest bit down and cuts to its width. -/
theorem fieldPositions : Obligations.FieldPositions := by
  intro w
  simp only [opcodeOf, rsOf, rtOf, rdOf, shamtOf, functOf, immOf, targetOf, BitVec.extractLsb'_toNat,
    Nat.shiftRight_eq_div_pow, Nat.pow_zero, Nat.div_one, and_self, and_true]
  have hw := w.isLt
  omega

/-! ### The targets as numbers -/

/-- The signed immediate as a residue modulo 2^32 (R10). -/
theorem signedImm_toNat (imm : BitVec 16) : ((signedImm imm).toNat : Int) = imm.toInt % 2 ^ 32 := by
  have hs : (signedImm imm).toInt = imm.toInt := BitVec.toInt_signExtend_of_le (by decide)
  have hlt := (signedImm imm).isLt
  rw [← hs, BitVec.toInt_eq_toNat_cond]
  split <;> omega

/-- The branch target as a residue modulo 2^32 (R86). -/
theorem branchTarget_toNat (pc : Word32) (imm : BitVec 16) :
    ((branchTarget pc imm).toNat : Int) = ((pc.toNat : Int) + 4 + 4 * imm.toInt) % 2 ^ 32 := by
  have hs := signedImm_toNat imm
  simp only [branchTarget, BitVec.toNat_add, BitVec.toNat_shiftLeft, BitVec.toNat_ofNat, Nat.shiftLeft_eq]
  omega

/-- The jump target as a number: the segment of `pc + 4` above the 26 bits times four (R87). -/
theorem jumpTarget_toNat (pc : Word32) (target : BitVec 26) :
    (jumpTarget pc target).toNat = (pc.toNat + 4) % 2 ^ 32 / 2 ^ 28 * 2 ^ 28 + target.toNat * 4 := by
  simp only [jumpTarget, toNat_append_eq_add, BitVec.extractLsb'_toNat, BitVec.toNat_add, BitVec.toNat_ofNat,
    Nat.shiftRight_eq_div_pow]
  omega

/-- The immediates next to zero and at the ends of the range (R212). -/
theorem branchTarget_corners (pc : Word32) :
    branchTarget pc 0xFFFF = pc ∧ branchTarget pc 0x0000 = pc + 4 ∧
      branchTarget pc 0x8000 = pc + 4 - 0x20000 ∧ branchTarget pc 0x7FFF = pc + 4 + 0x1FFFC := by
  have h1 : signedImm 0xFFFF <<< 2 = 0xFFFFFFFC#32 := by decide
  have h2 : signedImm 0x0000 <<< 2 = 0#32 := by decide
  have h3 : signedImm 0x8000 <<< 2 = 0xFFFE0000#32 := by decide
  have h4 : signedImm 0x7FFF <<< 2 = 0x1FFFC#32 := by decide
  simp only [branchTarget, h1, h2, h3, h4]
  refine ⟨?_, ?_, ?_, ?_⟩ <;> bv_omega

/-! ### What the default profile accepts -/

/-- The record of a word accepted at `pc`, by the way it was accepted: under its entry's name without a target, as
a branch, as a jump, or as one of the two names for another entry. -/
inductive AcceptedShape (w pc : Word32) : Insn → Prop
  | plain {mn form ubranch} : mn.isPlain = true → form = tDefault.route (opcodeOf w) →
      AcceptedShape w pc ⟨mn, form, w, none, none, ubranch⟩
  | branch {mn ubranch} : mn.isBranchClass = true → tDefault.route (opcodeOf w) = .I →
      AcceptedShape w pc ⟨mn, .I, w, some (branchTarget pc (immOf w)), none, ubranch⟩
  | jump {mn} : mn.isJumpClass = true → tDefault.route (opcodeOf w) = .J →
      AcceptedShape w pc ⟨mn, .J, w, some (jumpTarget pc (targetOf w)), none, false⟩
  | renamed {mn via} : mn = .nop ∨ mn = .move → tDefault.route (opcodeOf w) = .R →
      AcceptedShape w pc ⟨mn, .R, w, none, some via, false⟩

/-- An entry that a key selects stands in its table. -/
theorem mem_of_lookup_eq_some {κ ε : Type} [DecidableEq κ] {table : List (κ × ε)} {key : κ} {e : ε}
    (h : table.lookup key = some e) : (key, e) ∈ table := by
  obtain ⟨before, after, rfl, -⟩ := List.lookup_eq_some_iff.mp h
  simp

/-- Every R entry but that of the sync class keeps a plain name. -/
theorem defaultRTable_plain : ∀ x ∈ defaultRTable, x.2.kind ≠ .syncClass → x.2.mn.isPlain = true := by decide

/-- A direct entry is named as its class says: after a branch, or plainly. -/
def IEntry.namedByClass : IEntry → Bool
  | .direct mn cls _ _ => if cls.isBranch then mn.isBranchClass else mn.isPlain
  | .regimm | .cop _ => true

theorem defaultITable_named : ∀ x ∈ defaultITable, x.2.namedByClass = true := by decide

theorem defaultRegimmTable_named : ∀ x ∈ defaultRegimmTable,
    if x.2.cls = .branch then x.2.mn.isBranchClass = true else x.2.mn.isPlain = true := by decide

theorem copBranchMnemonic_isBranchClass (z : CopId) (sel : BitVec 2) :
    (copBranchMnemonic z sel).isBranchClass = true := by
  cases z <;> revert sel <;> decide

theorem defaultFloatTable_plain : ∀ x ∈ defaultFloatTable, x.2.mn.isPlain = true := by decide

theorem defaultMoveTable_plain (z : CopId) : ∀ x ∈ defaultMoveTable.get z, x.2.mn.isPlain = true := by
  cases z <;> decide

/-- The entry that decides a coprocessor word is named by the step that finds it (R281, R289). -/
theorem copMatch_named {z : CopId} {w : Word32} {step : CopStep} {e : CopEntry}
    (h : tDefault.copMatch z w = some (step, e)) :
    if step = .branch then e.mn.isBranchClass = true else e.mn.isPlain = true := by
  obtain ⟨rfl, -, rfl⟩ | ⟨rfl, -, -, hm⟩ | ⟨rfl, -, hm⟩ := Profile.copMatch_cases h
  · rw [branchTable_get]
    exact copBranchMnemonic_isBranchClass z _
  · unfold Profile.floatMatch at hm
    split at hm
    · next hl =>
      cases hm
      exact defaultFloatTable_plain _ (mem_of_lookup_eq_some hl)
    · split at hm <;> cases hm
      rfl
  · exact defaultMoveTable_plain z _ (mem_of_lookup_eq_some hm)

/-- The two ways to accept an I-form word, by the name of its entry (R219). -/
theorem AcceptedShape.of_iForm {c : Prop} [Decidable c] {mn : Mnemonic} {w pc : Word32} {u : Bool} {insn : Insn}
    (hr : tDefault.route (opcodeOf w) = .I)
    (hn : if c then mn.isBranchClass = true else mn.isPlain = true)
    (h : (if c then acceptedBranch mn w pc u else acceptedPlain mn w u) = .accepted insn) :
    AcceptedShape w pc insn := by
  split at h <;> cases h
  · next hc => exact .branch (by rwa [if_pos hc] at hn) hr
  · next hc => exact .plain (by rwa [if_neg hc] at hn) hr.symm

theorem rDecode_shape {w pc : Word32} {insn : Insn} (hr : tDefault.route (opcodeOf w) = .R)
    (h : tDefault.rDecode w = .accepted insn) : AcceptedShape w pc insn := by
  unfold Profile.rDecode at h
  split at h
  · cases h
  · next e hl =>
    split_ifs at h with hs hz hn hm <;> cases h
    · exact .renamed (.inl rfl) hr
    · exact .renamed (.inl rfl) hr
    · exact .renamed (.inr rfl) hr
    · exact .plain (defaultRTable_plain _ (mem_of_lookup_eq_some hl) hs) hr.symm

theorem iDecode_shape {w pc : Word32} {insn : Insn} (hr : tDefault.route (opcodeOf w) = .I)
    (h : tDefault.iDecode w pc = .accepted insn) : AcceptedShape w pc insn := by
  unfold Profile.iDecode at h
  split at h
  · cases h
  · obtain ⟨-, hd⟩ | ⟨e, hl, ⟨-, hd⟩ | ⟨-, hd⟩⟩ := tDefault.regimmDecode_cases w pc <;> rw [hd] at h
    · cases h
    · cases h
    · exact .of_iForm hr (defaultRegimmTable_named _ (mem_of_lookup_eq_some hl)) h
  · next z _ =>
    obtain ⟨-, hd⟩ | ⟨step, e, hm, ⟨-, hd⟩ | ⟨-, hd⟩⟩ := tDefault.copDecode_cases z w pc <;> rw [hd] at h
    · cases h
    · cases h
    · exact .of_iForm hr (copMatch_named hm) h
  · next mn cls zero likely hl =>
    have hn : (if cls.isBranch then mn.isBranchClass else mn.isPlain) = true :=
      defaultITable_named _ (mem_of_lookup_eq_some hl)
    split at h
    · cases h
    · exact .of_iForm hr (by split <;> simp_all) h

/-- Every word the default profile accepts (R350). -/
theorem decode_shape {w pc : Word32} {insn : Insn} (h : tDefault.decode w pc = .accepted insn) :
    AcceptedShape w pc insn := by
  unfold Profile.decode at h
  split at h
  · next hr => exact rDecode_shape hr h
  · next hr =>
    cases h
    exact .jump (by split <;> rfl) hr
  · next hr => exact iDecode_shape hr h

/-- Settles O12, by the shape of the record. -/
theorem resultRecordShape : Obligations.ResultRecordShape := by
  intro w pc insn h
  cases decode_shape h with
  | plain hn hr =>
    obtain ⟨hb, hj, hnop, hmove, hsync⟩ := Mnemonic.isPlain_iff.mp hn
    exact ⟨rfl, hr, by simp [hb, hj], by simp [hnop, hmove], hsync⟩
  | branch hb hr =>
    obtain ⟨-, hnop, hmove, hsync⟩ := Mnemonic.isBranchClass_cases hb
    exact ⟨rfl, hr.symm, by simp [hb], by simp [hnop, hmove], hsync⟩
  | jump hj hr => obtain rfl | rfl := Mnemonic.isJumpClass_iff.mp hj <;> exact ⟨rfl, hr.symm, rfl, rfl, nofun⟩
  | renamed hn hr => obtain rfl | rfl := hn <;> exact ⟨rfl, hr.symm, rfl, rfl, nofun⟩

/-- Settles O13: the formula is linear arithmetic modulo 2^32, and of the four shapes only a branch has a
branch-class name. -/
theorem branchTargetFormula : Obligations.BranchTargetFormula := by
  refine ⟨branchTarget_toNat, branchTarget_corners, by decide, fun w pc insn h hb => ?_⟩
  cases decode_shape h with
  | plain hn => exact absurd hb (by simp [(Mnemonic.isPlain_iff.mp hn).1])
  | branch => rfl
  | jump hj => exact absurd hj (by simp [(Mnemonic.isBranchClass_cases hb).1])
  | renamed hn => obtain rfl | rfl := hn <;> cases hb

/-- Settles O14: the formula weighs the three parts of the target, and of the four shapes only a jump has a
jump-class name. -/
theorem jumpTargetFormula : Obligations.JumpTargetFormula := by
  refine ⟨jumpTarget_toNat, by decide, fun w pc insn h hj => ?_⟩
  cases decode_shape h with
  | plain hn => exact absurd hj (by simp [(Mnemonic.isPlain_iff.mp hn).2.1])
  | branch hb => exact absurd hj (by simp [(Mnemonic.isBranchClass_cases hb).1])
  | jump => rfl
  | renamed hn => obtain rfl | rfl := hn <;> cases hj

end Sys2Proof.Machine
end

section
/-! The proof of O5. The opcode table lists the rows that the decode tables of `T_default` generate, opcode by opcode
(`opcodeTable_by_opcode`). A word reaches at most the rows of the one entry that the decoder looks up, so the answer of
the table is the test of that entry's required-zero fields, which is the decoder's. -/

namespace Sys2Proof.Machine

/-! ### Patterns of a word -/

/-- The word that holds `v` from bit `s` on, and zeros. -/
def window (s : Nat) {n : Nat} (v : BitVec n) : Word32 := v.setWidth 32 <<< s

/-- The bits of a field that starts at `s` and is `n` wide. -/
def fieldMask (s n : Nat) : Word32 := window s (BitVec.allOnes n)

theorem getElem_window {s n i : Nat} (v : BitVec n) (hi : i < 32) :
    (window s v)[i] = (decide (s ≤ i) && v.getLsbD (i - s)) := by
  by_cases h : i < s
  · simp [window, h, Nat.not_le.mpr h]
  · simp [window, h, Nat.not_lt.mp h]

/-- A field read under its mask, where it stands. -/
theorem and_fieldMask {s n : Nat} (w : Word32) : w &&& fieldMask s n = window s (w.extractLsb' s n) := by
  ext i hi
  rw [BitVec.getElem_and, fieldMask, getElem_window, getElem_window, BitVec.getLsbD_extractLsb']
  by_cases hs : s ≤ i
  · simp [hs, BitVec.getLsbD_eq_getElem hi, Bool.and_comm]
  · simp [hs]

theorem window_inj {s n : Nat} (h : s + n ≤ 32) {v u : BitVec n} : window s v = window s u ↔ v = u := by
  refine ⟨fun heq => ?_, congrArg _⟩
  ext i hi
  have hbit := congrArg (fun x : Word32 => x.getLsbD (s + i)) heq
  have hlt : s + i < 32 := by omega
  simpa [BitVec.getLsbD_eq_getElem hlt, BitVec.getLsbD_eq_getElem hi, getElem_window] using hbit

/-- A required-zero field is zero when nothing is left of the word under its mask (R96). -/
theorem and_fieldMask_eq_zero {s n : Nat} (h : s + n ≤ 32) {w : Word32} :
    w &&& fieldMask s n = 0#32 ↔ w.extractLsb' s n = 0#n := by
  have hzero : (0#32 : Word32) = window s 0#n := by simp [window]
  rw [and_fieldMask, hzero, window_inj h]

/-- A test on some bits of a word, as a row of the table makes it: the masked word is `bits`, which lies under the
mask. -/
structure Pattern where
  mask : Word32
  bits : Word32
  within : bits &&& mask = bits

def Pattern.Matches (p : Pattern) (w : Word32) : Prop := w &&& p.mask = p.bits

/-- The pattern of a field: the bits from `s` on are `v`. -/
def Pattern.field (s : Nat) {n : Nat} (v : BitVec n) : Pattern where
  mask := fieldMask s n
  bits := window s v
  within := by
    ext i hi
    rw [BitVec.getElem_and, fieldMask, getElem_window, getElem_window]
    cases hv : v.getLsbD (i - s) with
    | false => simp
    | true => simp [BitVec.lt_of_getLsbD hv]

/-- Both tests. -/
def Pattern.and (p q : Pattern) : Pattern where
  mask := p.mask ||| q.mask
  bits := p.bits ||| q.bits
  within := by
    rw [← p.within, ← q.within]
    ext i hi
    simp only [BitVec.getElem_and, BitVec.getElem_or]
    grind

/-- The test that nothing is left under a mask. -/
def Pattern.zeroUnder (mask : Word32) : Pattern := ⟨mask, 0#32, BitVec.zero_and⟩

@[simp] theorem Pattern.mask_field (s : Nat) {n : Nat} (v : BitVec n) : (Pattern.field s v).mask = fieldMask s n := rfl

@[simp] theorem Pattern.mask_and (p q : Pattern) : (p.and q).mask = p.mask ||| q.mask := rfl

theorem Pattern.field_matches {s n : Nat} (h : s + n ≤ 32) {v : BitVec n} {w : Word32} :
    (Pattern.field s v).Matches w ↔ w.extractLsb' s n = v := by
  rw [Pattern.Matches, Pattern.mask_field, and_fieldMask]
  exact window_inj h

/-- Two tests on different bits are made at once. -/
theorem Pattern.and_matches {p q : Pattern} {w : Word32} (hd : p.mask &&& q.mask = 0#32) :
    (p.and q).Matches w ↔ p.Matches w ∧ q.Matches w := by
  have hp := p.within
  have hq := q.within
  simp only [Pattern.Matches, Pattern.and, BitVec.eq_of_getElem_eq_iff, BitVec.getElem_and, BitVec.getElem_or,
    BitVec.getElem_zero] at *
  grind

/-! ### Required-zero fields under a mask -/

def unionMask (masks : List Word32) : Word32 := masks.foldr (· ||| ·) 0#32

theorem and_unionMask_eq_zero {masks : List Word32} {w : Word32} :
    w &&& unionMask masks = 0#32 ↔ ∀ mask ∈ masks, w &&& mask = 0#32 := by
  induction masks with
  | nil => simp [unionMask]
  | cons mask masks ih =>
    have hcons : unionMask (mask :: masks) = mask ||| unionMask masks := rfl
    rw [hcons, BitVec.and_or_distrib_left, BitVec.or_eq_zero_iff, ih, List.forall_mem_cons]

def ZeroField.mask : ZeroField → Word32
  | .rs => fieldMask 21 5
  | .rt => fieldMask 16 5
  | .rd => fieldMask 11 5
  | .shamt => fieldMask 6 5

def patternMask (zero : List ZeroField) : Word32 := unionMask (zero.map ZeroField.mask)

theorem ZeroField.and_mask_eq_zero (f : ZeroField) (w : Word32) : w &&& f.mask = 0#32 ↔ f.value w = 0#5 := by
  cases f <;> exact and_fieldMask_eq_zero (by decide)

theorem and_patternMask_eq_zero {zero : List ZeroField} {w : Word32} :
    w &&& patternMask zero = 0#32 ↔ patternBroken zero w = false := by
  rw [patternMask, and_unionMask_eq_zero, patternBroken_eq_false_iff, List.forall_mem_map]
  simp only [ZeroField.and_mask_eq_zero]

theorem not_patternBroken_cons (f : ZeroField) (zero : List ZeroField) (w : Word32) :
    (!patternBroken (f :: zero) w) = (decide (f.value w = 0#5) && !patternBroken zero w) := by
  by_cases h : f.value w = 0#5 <;> simp [patternBroken, h]

/-- A mask that shares no bit with the four fields shares none with a pattern of them. -/
theorem and_patternMask {mask : Word32} (h : ∀ f : ZeroField, f.value mask = 0#5) (zero : List ZeroField) :
    mask &&& patternMask zero = 0#32 :=
  and_patternMask_eq_zero.mpr ((patternBroken_eq_false_iff zero mask).mpr fun f _ => h f)

theorem opcode_and_patternMask (zero : List ZeroField) : fieldMask 26 6 &&& patternMask zero = 0#32 :=
  and_patternMask (fun f => by cases f <;> rfl) zero

theorem codes_and_patternMask (zero : List ZeroField) :
    (fieldMask 26 6 ||| fieldMask 0 6) &&& patternMask zero = 0#32 :=
  and_patternMask (fun f => by cases f <;> rfl) zero

def CopZeroField.mask : CopZeroField → Word32
  | .rt => fieldMask 16 5
  | .rd => fieldMask 11 5
  | .shamt => fieldMask 6 5
  | .rtHigh => fieldMask 18 3
  | .immMiddle => fieldMask 8 3

def copPatternMask (zero : List CopZeroField) : Word32 := unionMask (zero.map CopZeroField.mask)

theorem CopZeroField.and_mask_eq_zero (f : CopZeroField) (w : Word32) : w &&& f.mask = 0#32 ↔ f.isZero w = true := by
  cases f <;> exact (and_fieldMask_eq_zero (by decide)).trans beq_iff_eq.symm

theorem and_copPatternMask_eq_zero {zero : List CopZeroField} {w : Word32} :
    w &&& copPatternMask zero = 0#32 ↔ copPatternBroken zero w = false := by
  rw [copPatternMask, and_unionMask_eq_zero, copPatternBroken_eq_false_iff, List.forall_mem_map]
  simp only [CopZeroField.and_mask_eq_zero]

/-! ### The rows that a decode table generates -/

/-- The row of an entry that `sel` selects and whose fields under `zero` must be zero. -/
def entryRow (mn : Mnemonic) (via : Option Mnemonic) (form : Form) (sel : Pattern) (zero : Word32)
    (priority : Nat) : TableRow :=
  ⟨mn, via, form, sel.bits, sel.mask ||| zero, sel.bits, sel.mask, priority⟩

/-- The selector of an R-table entry. -/
def rSelector (funct : BitVec 6) : Pattern := .and (.field 26 0#6) (.field 0 funct)

/-- The rows of an R-table entry, the renamed form before its own (R145 to R147). -/
def rRows (funct : BitVec 6) (e : REntry) : List TableRow :=
  let row := entryRow e.mn none .R (rSelector funct) (patternMask e.zero) 1
  match e.kind with
  | .plain => [row]
  | .syncClass => [entryRow .nop (some e.mn) .R (rSelector funct) 0#32 1]
  | .shiftNop => [entryRow .nop (some e.mn) .R (rSelector funct) (patternMask (.shamt :: e.zero)) 0, row]
  | .addMove => [entryRow .move (some e.mn) .R (rSelector funct) (patternMask (.rt :: e.zero)) 0, row]

/-- The row of a regimm entry (R260). -/
def regimmRow (rt : BitVec 5) (e : RegimmEntry) : TableRow :=
  entryRow e.mn none .I (.and (.field 26 1#6) (.field 16 rt)) (patternMask e.zero) 1

/-- The row of a branch of step (a) (R281). -/
def copBranchRow (z : CopId) (sel : BitVec 2) (e : CopEntry) : TableRow :=
  entryRow e.mn none .I (.and (.and (.field 26 (copOpcode z)) (.field 21 tDefault.branchSentinel)) (.field 16 sel))
    (copPatternMask e.zero) 0

/-- The row of an entry of step (b), behind the gate; its key is a function code or the compare window (R282). -/
def floatRow (key : Pattern) (e : CopEntry) : TableRow :=
  entryRow e.mn none .I (.and (.and (.field 26 17#6) (.field 25 1#1)) key) (copPatternMask e.zero) 1

/-- The row of a function code of step (b) (R283). -/
def floatCodeRow (funct : BitVec 6) (e : CopEntry) : TableRow := floatRow (.field 0 funct) e

/-- The row of the compare (R284). -/
def compareRow : TableRow := floatRow (.field 4 tDefault.compareWindow) tDefault.compare

/-- The row of an entry of step (c) (R286). -/
def copMoveRow (z : CopId) (rs : BitVec 5) (e : CopEntry) : TableRow :=
  entryRow e.mn none .I (.and (.field 26 (copOpcode z)) (.field 21 rs)) (fieldMask 0 11 ||| copPatternMask e.zero) 1

/-- The branches of an id as a table keyed on the two selecting bits. -/
def branchEntries (z : CopId) : List (BitVec 2 × CopEntry) :=
  [0#2, 1#2, 2#2, 3#2].map fun sel => (sel, (tDefault.branchTable.get z).get sel)

/-- The rows of step (b), which only coprocessor 1 has. -/
def floatRows : CopId → List TableRow
  | .cop1 => (tDefault.floatTable.flatMap fun x => [floatCodeRow x.1 x.2]) ++ [compareRow]
  | .cop0 | .cop2 => []

/-- The rows of a coprocessor opcode, in the order of the cascade. -/
def copRows (z : CopId) : List TableRow :=
  ((branchEntries z).flatMap fun x => [copBranchRow z x.1 x.2]) ++ floatRows z ++
    (tDefault.moveTable.get z).flatMap fun x => [copMoveRow z x.1 x.2]

/-- The rows that `T_default` generates for an opcode. -/
def opcodeRows (op : BitVec 6) : List TableRow :=
  match tDefault.route op with
  | .R => tDefault.rTable.flatMap fun x => rRows x.1 x.2
  | .J => [entryRow (if op = tDefault.opJ then .j else .jal) none .J (.field 26 op) 0#32 1]
  | .I =>
    match tDefault.iTable.lookup op with
    | none => []
    | some .regimm => tDefault.regimmTable.flatMap fun x => [regimmRow x.1 x.2]
    | some (.cop z) => copRows z
    | some (.direct mn _ zero _) => [entryRow mn none .I (.field 26 op) (patternMask zero) 1]

/-- The opcode table is the one that `T_default` generates (R100). -/
theorem opcodeTable_by_opcode (op : BitVec 6) :
    opcodeTable.filter (fun row => opcodeOf row.selBits == op) = opcodeRows op := by
  have hother : ∀ op : BitVec 6, op ≠ 0#6 →
      opcodeTable.filter (fun row => opcodeOf row.selBits == op) = opcodeRows op := by decide
  by_cases h : op = 0#6
  · subst h
    rfl
  · exact hother op h

/-- What every row is made of: its selector holds the opcode, and its other tests come on top of the selector. -/
theorem opcodeTable_selectors : ∀ row ∈ opcodeTable, row.selMask &&& fieldMask 26 6 = fieldMask 26 6 ∧
    row.mask &&& row.selMask = row.selMask ∧ row.bits &&& row.selMask = row.selBits := by
  simp only [opcodeTable, List.forall_mem_append]
  refine ⟨⟨⟨⟨⟨⟨?_, ?_⟩, ?_⟩, ?_⟩, ?_⟩, ?_⟩, ?_⟩ <;> decide

/-! ### What the table answers -/

/-- The rows whose entry a word reached. -/
def reachedRows (w : Word32) : List TableRow := opcodeTable.filter (·.reached w)

theorem reached_of_fits {row : TableRow} (hrow : row ∈ opcodeTable) {w : Word32} (h : row.fits w = true) :
    row.reached w = true := by
  obtain ⟨-, hmask, hbits⟩ := opcodeTable_selectors row hrow
  rw [TableRow.fits, beq_iff_eq] at h
  rw [TableRow.reached, beq_iff_eq, ← hmask, ← BitVec.and_assoc, h, hbits]

theorem opcode_of_reached {row : TableRow} (hrow : row ∈ opcodeTable) {w : Word32} (h : row.reached w = true) :
    opcodeOf row.selBits = opcodeOf w := by
  obtain ⟨hop, -, -⟩ := opcodeTable_selectors row hrow
  rw [TableRow.reached, beq_iff_eq] at h
  have hw : w &&& fieldMask 26 6 = row.selBits &&& fieldMask 26 6 := by
    rw [← h, BitVec.and_assoc, hop]
  rw [and_fieldMask, and_fieldMask, window_inj (by decide)] at hw
  exact hw.symm

/-- The rows that a word reached are rows of its opcode. -/
theorem reachedRows_eq (w : Word32) : reachedRows w = (opcodeRows (opcodeOf w)).filter (·.reached w) := by
  rw [reachedRows, ← opcodeTable_by_opcode, List.filter_filter]
  refine List.filter_congr fun row hrow => ?_
  cases h : row.reached w with
  | false => rfl
  | true => simp [opcode_of_reached hrow h]

/-- A row that fits is a row that was reached. -/
theorem fittingRows_opcodeTable (w : Word32) : fittingRows w opcodeTable = fittingRows w (reachedRows w) := by
  have hfit (q : TableRow → Bool) : opcodeTable.filter (fun row => row.fits w && q row) =
      (reachedRows w).filter (fun row => row.fits w && q row) := by
    rw [reachedRows, List.filter_filter]
    refine List.filter_congr fun row hrow => ?_
    cases h : row.fits w with
    | false => rfl
    | true => simp [reached_of_fits hrow h]
  rw [fittingRows, hfit, hfit, fittingRows]

theorem any_reached_eq (w : Word32) : opcodeTable.any (·.reached w) = !(reachedRows w).isEmpty := by
  rw [reachedRows, Bool.eq_iff_iff]
  simp

theorem tableAnswer_of_nil {w : Word32} (h : reachedRows w = []) : tableAnswer w = .noEntry := by
  rw [tableAnswer, fittingRows_opcodeTable, any_reached_eq, h]
  rfl

theorem tableAnswer_of_one {w : Word32} {row : TableRow} (h : reachedRows w = [row]) :
    tableAnswer w = if row.fits w = true then .accepted row else .malformedEncoding := by
  rw [tableAnswer, fittingRows_opcodeTable, any_reached_eq, h]
  cases hf : row.fits w <;> cases hp : row.priority == 0 <;> simp [fittingRows, hf, hp, bne]

/-- Of two fitting rows the one of lower priority answers (R100). -/
theorem tableAnswer_of_two {w : Word32} {first second : TableRow} (h : reachedRows w = [first, second])
    (h0 : first.priority = 0) (h1 : second.priority = 1) :
    tableAnswer w = if first.fits w = true then .accepted first
      else if second.fits w = true then .accepted second else .malformedEncoding := by
  rw [tableAnswer, fittingRows_opcodeTable, any_reached_eq, h]
  cases hf : first.fits w <;> cases hs : second.fits w <;> simp [fittingRows, hf, hs, h0, h1]

/-! ### When the table and the decoder agree -/

/-- The decoder accepts the word as the row says: mnemonic, form and via. -/
def AcceptedAs (row : TableRow) (d : DecodeResult) : Prop :=
  ∃ insn, d = .accepted insn ∧ insn.mn = row.mn ∧ insn.form = row.form ∧ insn.via = row.via

/-- What the table says of a word is what the decoder answers (R100). -/
def TableAgrees (d : DecodeResult) : TableAnswer → Prop
  | .accepted row => AcceptedAs row d
  | .malformedEncoding => d = .rejected .malformedEncoding
  | .noEntry => d = .rejected .unknownSelector ∨ d = .rejected .unsupportedSubform

/-- A word that reached the one row of an entry. -/
theorem TableAgrees.ofOne {w : Word32} {row : TableRow} {broken : Bool} {d : DecodeResult}
    (h : reachedRows w = [row]) (hf : row.fits w = !broken) (hd : AcceptedAs row d) :
    TableAgrees (if broken then .rejected .malformedEncoding else d) (tableAnswer w) := by
  rw [tableAnswer_of_one h, hf]
  cases broken with
  | true => rfl
  | false => exact hd

/-- A word that reached an entry with two rows, the first for the words of the entry that have another name. -/
theorem TableAgrees.ofTwo {w : Word32} {first second : TableRow} {broken : Bool} {c : Prop} [Decidable c]
    {d₁ d₂ : DecodeResult} (h : reachedRows w = [first, second]) (h0 : first.priority = 0) (h1 : second.priority = 1)
    (hf : first.fits w = (decide c && !broken)) (hs : second.fits w = !broken) (hd₁ : AcceptedAs first d₁)
    (hd₂ : AcceptedAs second d₂) :
    TableAgrees (if broken then .rejected .malformedEncoding else if c then d₁ else d₂) (tableAnswer w) := by
  rw [tableAnswer_of_two h h0 h1, hf, hs]
  cases broken with
  | true => simp [TableAgrees]
  | false =>
    by_cases hc : c
    · simpa [hc, TableAgrees] using hd₁
    · simpa [hc, TableAgrees] using hd₂

/-! ### The rows of an entry -/

section EntryRow

variable {mn : Mnemonic} {via : Option Mnemonic} {form : Form} {sel : Pattern} {zero : Word32} {priority : Nat}
  {w : Word32}

theorem reached_entryRow : (entryRow mn via form sel zero priority).reached w = true ↔ sel.Matches w := beq_iff_eq

/-- Behind its selector a row tests the required-zero fields (R96). -/
theorem fits_entryRow (hs : sel.Matches w) (hd : sel.mask &&& zero = 0#32) :
    (entryRow mn via form sel zero priority).fits w = true ↔ w &&& zero = 0#32 := by
  have hfits : (entryRow mn via form sel zero priority).fits w = true ↔ (sel.and (.zeroUnder zero)).Matches w := by
    simp [entryRow, TableRow.fits, Pattern.Matches, Pattern.and, Pattern.zeroUnder]
  rw [hfits, Pattern.and_matches hd]
  exact and_iff_right hs

/-- A word that reached the one row of an entry, whose zero test is the decoder's. -/
theorem TableAgrees.ofEntry {broken : Bool} {d : DecodeResult}
    (h : reachedRows w = [entryRow mn via form sel zero priority]) (hd : sel.mask &&& zero = 0#32)
    (hz : w &&& zero = 0#32 ↔ broken = false) (ha : AcceptedAs (entryRow mn via form sel zero priority) d) :
    TableAgrees (if broken then .rejected .malformedEncoding else d) (tableAnswer w) := by
  have hmem : entryRow mn via form sel zero priority ∈ reachedRows w := h ▸ List.mem_singleton_self _
  have hs : sel.Matches w := reached_entryRow.mp (List.mem_filter.mp hmem).2
  refine .ofOne h ?_ ha
  rw [Bool.eq_iff_iff, fits_entryRow hs hd, hz, Bool.not_eq_true']

end EntryRow

/-! ### Looking an entry up -/

section Lookup

variable {κ ε ρ : Type} [DecidableEq κ] {table : List (κ × ε)} {test : ρ → Bool} {key : κ} {c : Prop} [Decidable c]

/-- When a test passes the rows generated for one key, and only them, these are the rows of the entry that the key
selects. -/
theorem filter_flatMap_of_key {rows : κ → ε → List ρ} (hk : keysDistinct table)
    (htest : ∀ k e, ∀ row ∈ rows k e, (test row = true ↔ c ∧ key = k)) :
    (table.flatMap fun x => rows x.1 x.2).filter test =
      if c then (table.lookup key).elim [] (rows key) else [] := by
  have drop (k : κ) (e : ε) (h : ¬ (c ∧ key = k)) : (rows k e).filter test = [] :=
    List.filter_eq_nil_iff.mpr fun row hrow => mt (htest k e row hrow).mp h
  induction table with
  | nil => simp
  | cons x table ih =>
    obtain ⟨k, e⟩ := x
    obtain ⟨hnew, hk⟩ := List.nodup_cons.mp hk
    rw [List.flatMap_cons, List.filter_append, ih hk]
    by_cases hc : c
    · by_cases hx : key = k
      · subst hx
        have hnone : table.lookup key = none := List.lookup_eq_none_iff.mpr fun p hp => by
          have hmem : p.1 ∈ table.map Prod.fst := List.mem_map_of_mem hp
          have hne : key ≠ p.1 := fun h => hnew (by rwa [← h] at hmem)
          simpa using hne
        have hall : (rows key e).filter test = rows key e :=
          List.filter_eq_self.mpr fun row hrow => (htest key e row hrow).mpr ⟨hc, rfl⟩
        simp [hnone, hall, hc]
      · have hb : (key == k) = false := by simpa using hx
        simp [drop k e fun h => hx h.2, List.lookup_cons, hb]
    · simp [drop k e fun h => hc h.1, hc]

/-- The same for a table whose entries have one row each. -/
theorem filter_flatMap_row {row : κ → ε → ρ} (hk : keysDistinct table)
    (htest : ∀ k e, test (row k e) = true ↔ c ∧ key = k) :
    (table.flatMap fun x => [row x.1 x.2]).filter test =
      if c then (table.lookup key).elim [] (fun e => [row key e]) else [] := by
  refine filter_flatMap_of_key (rows := fun k e => [row k e]) hk fun k e r hr => ?_
  rw [List.mem_singleton.mp hr]
  exact htest k e

end Lookup

/-! ### R-form -/

theorem rSelector_matches {funct : BitVec 6} {w : Word32} :
    (rSelector funct).Matches w ↔ opcodeOf w = 0#6 ∧ functOf w = funct := by
  have hd : fieldMask 26 6 &&& fieldMask 0 6 = 0#32 := by decide
  rw [rSelector, Pattern.and_matches hd, Pattern.field_matches (by decide), Pattern.field_matches (by decide)]
  rfl

theorem reached_of_mem_rRows {funct : BitVec 6} {e : REntry} {row : TableRow} (h : row ∈ rRows funct e)
    {w : Word32} : row.reached w = true ↔ (rSelector funct).Matches w := by
  unfold rRows at h
  split at h <;> simp only [List.mem_cons, List.not_mem_nil, or_false] at h
  · subst h; exact reached_entryRow
  · subst h; exact reached_entryRow
  · obtain rfl | rfl := h <;> exact reached_entryRow
  · obtain rfl | rfl := h <;> exact reached_entryRow

theorem fits_rRow {mn : Mnemonic} {via : Option Mnemonic} {zero : List ZeroField} {priority : Nat} {w : Word32}
    (hop : opcodeOf w = 0#6) :
    (entryRow mn via .R (rSelector (functOf w)) (patternMask zero) priority).fits w = !patternBroken zero w := by
  rw [Bool.eq_iff_iff, fits_entryRow (rSelector_matches.mpr ⟨hop, rfl⟩) (codes_and_patternMask zero),
    and_patternMask_eq_zero, Bool.not_eq_true']

/-- The row of a renamed form also tests the field that renames it (R145, R147). -/
theorem fits_rRow_cons {mn : Mnemonic} {via : Option Mnemonic} {f : ZeroField} {zero : List ZeroField} {priority : Nat}
    {w : Word32} (hop : opcodeOf w = 0#6) :
    (entryRow mn via .R (rSelector (functOf w)) (patternMask (f :: zero)) priority).fits w =
      (decide (f.value w = 0#5) && !patternBroken zero w) :=
  (fits_rRow hop).trans (not_patternBroken_cons f zero w)

theorem rTable_keys : keysDistinct tDefault.rTable := by
  unfold keysDistinct
  decide

/-- An R-form word reaches the rows of the entry its function code selects. -/
theorem reachedRows_rForm {w : Word32} (hop : opcodeOf w = 0#6) :
    reachedRows w = (tDefault.rTable.lookup (functOf w)).elim [] (rRows (functOf w)) := by
  rw [reachedRows_eq, hop]
  refine (filter_flatMap_of_key rTable_keys fun f e row hrow => ?_).trans (if_pos hop)
  exact (reached_of_mem_rRows hrow).trans rSelector_matches

theorem tableAgrees_rForm {w : Word32} (hop : opcodeOf w = 0#6) :
    TableAgrees (tDefault.rDecode w) (tableAnswer w) := by
  have hrows := reachedRows_rForm hop
  unfold Profile.rDecode
  split
  · next hl =>
    rw [hl] at hrows
    rw [tableAnswer_of_nil hrows]
    exact .inl rfl
  · next e hl =>
    rw [hl, Option.elim_some] at hrows
    obtain ⟨mn, operands, zero, kind⟩ := e
    cases kind with
    | plain =>
      simp only [reduceCtorEq, false_and, if_false]
      exact .ofOne hrows (fits_rRow hop) ⟨_, rfl, rfl, rfl, rfl⟩
    | syncClass =>
      simp only [if_true]
      exact .ofOne (broken := false) hrows (fits_rRow (zero := []) hop) ⟨_, rfl, rfl, rfl, rfl⟩
    | shiftNop =>
      simp only [reduceCtorEq, false_and, if_false, true_and]
      exact .ofTwo hrows rfl rfl (fits_rRow_cons hop) (fits_rRow hop) ⟨_, rfl, rfl, rfl, rfl⟩
        ⟨_, rfl, rfl, rfl, rfl⟩
    | addMove =>
      simp only [reduceCtorEq, false_and, if_false, true_and]
      exact .ofTwo hrows rfl rfl (fits_rRow_cons hop) (fits_rRow hop) ⟨_, rfl, rfl, rfl, rfl⟩
        ⟨_, rfl, rfl, rfl, rfl⟩

/-! ### I-form -/

/-- A word that reached the one row of an I-form entry: whether it carries a target is not in the table. -/
theorem TableAgrees.ofIForm {w pc : Word32} {mn : Mnemonic} {sel : Pattern} {zero : Word32} {priority : Nat}
    {broken u : Bool} {c : Prop} [Decidable c] (h : reachedRows w = [entryRow mn none .I sel zero priority])
    (hd : sel.mask &&& zero = 0#32) (hz : w &&& zero = 0#32 ↔ broken = false) :
    TableAgrees (if broken then .rejected .malformedEncoding
      else if c then acceptedBranch mn w pc u else acceptedPlain mn w u) (tableAnswer w) := by
  refine .ofEntry h hd hz ?_
  split <;> exact ⟨_, rfl, rfl, rfl, rfl⟩

theorem reached_regimmRow {rt : BitVec 5} {e : RegimmEntry} {w : Word32} :
    (regimmRow rt e).reached w = true ↔ opcodeOf w = 1#6 ∧ rtOf w = rt := by
  have hd : fieldMask 26 6 &&& fieldMask 16 5 = 0#32 := by decide
  rw [regimmRow, reached_entryRow, Pattern.and_matches hd, Pattern.field_matches (by decide),
    Pattern.field_matches (by decide)]
  rfl

theorem regimmTable_keys : keysDistinct tDefault.regimmTable := by
  unfold keysDistinct
  decide

theorem reachedRows_regimm {w : Word32} (hop : opcodeOf w = 1#6) :
    reachedRows w = (tDefault.regimmTable.lookup (rtOf w)).elim [] fun e => [regimmRow (rtOf w) e] := by
  rw [reachedRows_eq, hop]
  exact (filter_flatMap_row regimmTable_keys fun _ _ => reached_regimmRow).trans (if_pos hop)

theorem defaultRegimmTable_zero : ∀ x ∈ defaultRegimmTable, x.2.zero = [] := by decide

theorem tableAgrees_regimm {w : Word32} (pc : Word32) (hop : opcodeOf w = 1#6) :
    TableAgrees (tDefault.regimmDecode w pc) (tableAnswer w) := by
  have hrows := reachedRows_regimm hop
  unfold Profile.regimmDecode
  split
  · next hl =>
    rw [hl] at hrows
    rw [tableAnswer_of_nil hrows]
    exact .inr rfl
  · next e hl =>
    have hzero : e.zero = [] := defaultRegimmTable_zero _ (mem_of_lookup_eq_some hl)
    rw [hl] at hrows
    refine .ofIForm hrows ?_ and_patternMask_eq_zero
    rw [hzero]
    exact BitVec.and_zero

/-! ### The coprocessor cascade -/

theorem reached_copBranchRow {z : CopId} {sel : BitVec 2} {e : CopEntry} {w : Word32} :
    (copBranchRow z sel e).reached w = true ↔
      (opcodeOf w = copOpcode z ∧ rsOf w = tDefault.branchSentinel) ∧ branchSelectOf w = sel := by
  have hd : (fieldMask 26 6 ||| fieldMask 21 5) &&& fieldMask 16 2 = 0#32 := by decide
  have hd' : fieldMask 26 6 &&& fieldMask 21 5 = 0#32 := by decide
  rw [copBranchRow, reached_entryRow, Pattern.and_matches hd, Pattern.and_matches hd',
    Pattern.field_matches (by decide), Pattern.field_matches (by decide), Pattern.field_matches (by decide)]
  rfl

theorem reached_copMoveRow {z : CopId} {rs : BitVec 5} {e : CopEntry} {w : Word32} :
    (copMoveRow z rs e).reached w = true ↔ opcodeOf w = copOpcode z ∧ rsOf w = rs := by
  have hd : fieldMask 26 6 &&& fieldMask 21 5 = 0#32 := by decide
  rw [copMoveRow, reached_entryRow, Pattern.and_matches hd, Pattern.field_matches (by decide),
    Pattern.field_matches (by decide)]
  rfl

/-- The gate as a field of one bit (R282). -/
theorem gate_matches {w : Word32} : (Pattern.field 25 1#1).Matches w ↔ floatGateOf w = true := by
  rw [Pattern.field_matches (by decide), BitVec.eq_of_getElem_eq_iff]
  simp [floatGateOf]

theorem reached_floatRow {key : Pattern} (hkey : (fieldMask 26 6 ||| fieldMask 25 1) &&& key.mask = 0#32)
    {e : CopEntry} {w : Word32} :
    (floatRow key e).reached w = true ↔ (opcodeOf w = 17#6 ∧ floatGateOf w = true) ∧ key.Matches w := by
  have hd : fieldMask 26 6 &&& fieldMask 25 1 = 0#32 := by decide
  rw [floatRow, reached_entryRow, Pattern.and_matches hkey, Pattern.and_matches hd,
    Pattern.field_matches (by decide), gate_matches]
  rfl

theorem reached_floatCodeRow {funct : BitVec 6} {e : CopEntry} {w : Word32} :
    (floatCodeRow funct e).reached w = true ↔
      (opcodeOf w = 17#6 ∧ floatGateOf w = true) ∧ functOf w = funct := by
  rw [floatCodeRow, reached_floatRow (by rw [Pattern.mask_field]; decide), Pattern.field_matches (by decide)]
  rfl

theorem reached_compareRow {w : Word32} :
    compareRow.reached w = true ↔
      (opcodeOf w = 17#6 ∧ floatGateOf w = true) ∧ compareWindowOf w = tDefault.compareWindow := by
  rw [compareRow, reached_floatRow (by decide), Pattern.field_matches (by decide)]
  rfl

theorem branchEntries_lookup (z : CopId) (sel : BitVec 2) :
    (branchEntries z).lookup sel = some ((tDefault.branchTable.get z).get sel) := by
  cases z <;> revert sel <;> decide

theorem branchEntries_keys (z : CopId) : keysDistinct (branchEntries z) := by
  unfold keysDistinct
  cases z <;> decide

theorem floatTable_keys : keysDistinct tDefault.floatTable := by
  unfold keysDistinct
  decide

theorem moveTable_keys (z : CopId) : keysDistinct (tDefault.moveTable.get z) := by
  unfold keysDistinct
  cases z <;> decide

/-- The rows of step (b) that a word reached: none off the gate, behind it those of its function code and of the
compare (R282 to R284). -/
theorem reached_floatRows {z : CopId} {w : Word32} (hop : opcodeOf w = copOpcode z) :
    (floatRows z).filter (·.reached w) =
      if tDefault.floatGate z w then
        ((tDefault.floatTable.lookup (functOf w)).elim [] fun e => [floatCodeRow (functOf w) e]) ++
          if compareWindowOf w = tDefault.compareWindow then [compareRow] else []
      else [] := by
  cases z with
  | cop0 | cop2 => rfl
  | cop1 =>
    have hop : opcodeOf w = 17#6 := hop
    rw [floatRows, List.filter_append, filter_flatMap_row floatTable_keys fun _ _ => reached_floatCodeRow,
      floatGate_eq]
    by_cases hg : floatGateOf w = true
    · simp [hop, hg, List.filter_cons, reached_compareRow]
    · simp [hg, reached_compareRow]

/-- The rows that a coprocessor word reached, step by step (R280). -/
theorem reachedRows_cop {z : CopId} {w : Word32} (hop : opcodeOf w = copOpcode z) :
    reachedRows w =
      (if rsOf w = tDefault.branchSentinel then
        [copBranchRow z (branchSelectOf w) ((tDefault.branchTable.get z).get (branchSelectOf w))] else []) ++
      (floatRows z).filter (·.reached w) ++
      ((tDefault.moveTable.get z).lookup (rsOf w)).elim [] fun e => [copMoveRow z (rsOf w) e] := by
  have hrows : opcodeRows (copOpcode z) = copRows z := by cases z <;> rfl
  rw [reachedRows_eq, hop, hrows, copRows, List.filter_append, List.filter_append,
    filter_flatMap_row (branchEntries_keys z) fun _ _ => reached_copBranchRow,
    filter_flatMap_row (moveTable_keys z) fun _ _ => reached_copMoveRow, branchEntries_lookup]
  simp only [hop, true_and, if_true, Option.elim_some]

/-! ### The steps of the cascade exclude each other (W9) -/

theorem moveTable_lookup_sentinel (z : CopId) : (tDefault.moveTable.get z).lookup tDefault.branchSentinel = none := by
  cases z <;> rfl

theorem moveTable_lookup_of_gate {w : Word32} (hg : floatGateOf w = true) :
    (tDefault.moveTable.get .cop1).lookup (rsOf w) = none := by
  have hkeys : ∀ rs : BitVec 5, rs.getLsbD 4 = true → (tDefault.moveTable.get .cop1).lookup rs = none := by decide
  exact hkeys _ (floatGateOf_eq w ▸ hg)

theorem gate_shut_of_sentinel {z : CopId} {w : Word32} (hs : rsOf w = tDefault.branchSentinel) :
    tDefault.floatGate z w = false :=
  floatGate_eq_false fun _ hg => by
    rw [floatGateOf_eq, hs] at hg
    cases hg

/-- The two upper bits of a function code are the two lower ones of the compare window, and there no key of the table
has the window's value. -/
theorem floatTable_lookup_of_window {w : Word32} (hc : compareWindowOf w = tDefault.compareWindow) :
    tDefault.floatTable.lookup (functOf w) = none := by
  have hkeys : ∀ f : BitVec 6, f.extractLsb' 4 2 = 3#2 → tDefault.floatTable.lookup f = none := by decide
  have hbits : (functOf w).extractLsb' 4 2 = (compareWindowOf w).extractLsb' 0 2 := by
    ext i hi
    have h4 : i < 4 := by omega
    simp [functOf, compareWindowOf, h4]
  refine hkeys _ ?_
  rw [hbits, hc]
  rfl

/-! ### The zero test of a coprocessor entry -/

theorem branch_zero (z : CopId) (sel : BitVec 2) : ((tDefault.branchTable.get z).get sel).zero = [] := by
  rw [branchTable_get]
  rfl

theorem moveTable_zero (z : CopId) : ∀ x ∈ tDefault.moveTable.get z, x.2.zero = [] := by
  cases z <;> decide

/-- No entry of step (b) requires a bit of its own selector to be zero. -/
theorem floatTable_zero_apart : ∀ x ∈ tDefault.floatTable,
    (fieldMask 26 6 ||| fieldMask 25 1 ||| fieldMask 0 6) &&& copPatternMask x.2.zero = 0#32 := by decide

theorem copMalformed_eq_false {step : CopStep} (hstep : step ≠ .move) {e : CopEntry} {w : Word32} :
    w &&& copPatternMask e.zero = 0#32 ↔ copMalformed step e w = false := by
  rw [and_copPatternMask_eq_zero]
  simp [copMalformed, hstep]

theorem copMalformed_move_eq_false {e : CopEntry} {w : Word32} :
    w &&& (fieldMask 0 11 ||| copPatternMask e.zero) = 0#32 ↔ copMalformed .move e w = false := by
  rw [BitVec.and_or_distrib_left, BitVec.or_eq_zero_iff, and_fieldMask_eq_zero (by decide), and_copPatternMask_eq_zero]
  simp [copMalformed, immLow11Of, and_comm]

/-- Step (a) (R281). -/
theorem tableAgrees_copBranch {z : CopId} {w : Word32} (pc : Word32) (hop : opcodeOf w = copOpcode z)
    (hs : rsOf w = tDefault.branchSentinel) : TableAgrees (tDefault.copDecode z w pc) (tableAnswer w) := by
  have hrows := reachedRows_cop hop
  rw [if_pos hs, reached_floatRows hop, gate_shut_of_sentinel hs, hs, moveTable_lookup_sentinel] at hrows
  have hm : tDefault.copMatch z w =
      some (.branch, (tDefault.branchTable.get z).get (branchSelectOf w)) := if_pos hs
  rw [Profile.copDecode_of_copMatch pc hm]
  refine .ofIForm hrows ?_ (copMalformed_eq_false (by decide))
  rw [branch_zero]
  exact BitVec.and_zero

/-- Step (c), on a word that the steps before it leave to it (R286). -/
theorem tableAgrees_copMove {z : CopId} {w : Word32} (pc : Word32)
    (hc : tDefault.copMatch z w = tDefault.moveMatch z w)
    (hrows : reachedRows w = ((tDefault.moveTable.get z).lookup (rsOf w)).elim [] fun e => [copMoveRow z (rsOf w) e]) :
    TableAgrees (tDefault.copDecode z w pc) (tableAnswer w) := by
  cases hl : (tDefault.moveTable.get z).lookup (rsOf w) with
  | none =>
    rw [hl] at hrows
    rw [tableAnswer_of_nil hrows]
    simp only [Profile.copDecode, hc, Profile.moveMatch, hl, Option.map_none]
    exact .inr rfl
  | some e =>
    rw [hl] at hrows
    have hm : tDefault.copMatch z w = some (.move, e) := by rw [hc, Profile.moveMatch, hl, Option.map_some]
    rw [Profile.copDecode_of_copMatch pc hm]
    refine .ofIForm hrows ?_ copMalformed_move_eq_false
    have hzero : e.zero = [] := moveTable_zero z _ (mem_of_lookup_eq_some hl)
    rw [hzero, Pattern.mask_and, Pattern.mask_field, Pattern.mask_field]
    decide

/-- Step (b), behind its gate (R282 to R285). -/
theorem tableAgrees_copFloat {w : Word32} (pc : Word32) (hop : opcodeOf w = 17#6)
    (hs : rsOf w ≠ tDefault.branchSentinel) (hg : floatGateOf w = true) :
    TableAgrees (tDefault.copDecode .cop1 w pc) (tableAnswer w) := by
  have hrows := reachedRows_cop (z := .cop1) hop
  rw [if_neg hs, List.nil_append, reached_floatRows hop, floatGate_eq, hg] at hrows
  cases hl : tDefault.floatTable.lookup (functOf w) with
  | some e =>
    have hc : compareWindowOf w ≠ tDefault.compareWindow := fun hc => by
      rw [floatTable_lookup_of_window hc] at hl
      cases hl
    rw [hl, if_neg hc, moveTable_lookup_of_gate hg] at hrows
    rw [Profile.copDecode_of_copMatch pc (copMatch_of_floatMatch hs hg (by rw [Profile.floatMatch, hl]))]
    exact .ofIForm hrows (floatTable_zero_apart _ (mem_of_lookup_eq_some hl)) (copMalformed_eq_false (by decide))
  | none =>
    by_cases hc : compareWindowOf w = tDefault.compareWindow
    · have hm : tDefault.floatMatch w = some tDefault.compare := by
        simp only [Profile.floatMatch, hl]
        exact if_pos hc
      rw [hl, if_pos hc, moveTable_lookup_of_gate hg] at hrows
      rw [Profile.copDecode_of_copMatch pc (copMatch_of_floatMatch hs hg hm)]
      exact .ofIForm hrows BitVec.and_zero (copMalformed_eq_false (by decide))
    · have hm : tDefault.floatMatch w = none := by
        simp only [Profile.floatMatch, hl]
        exact if_neg hc
      rw [hl, if_neg hc] at hrows
      refine tableAgrees_copMove pc ?_ hrows
      rw [Profile.copMatch, if_neg hs, floatGate_eq, if_pos hg, hm]

/-- The cascade: the three steps in order (R280). -/
theorem tableAgrees_cop {z : CopId} {w : Word32} (pc : Word32) (hop : opcodeOf w = copOpcode z) :
    TableAgrees (tDefault.copDecode z w pc) (tableAnswer w) := by
  by_cases hs : rsOf w = tDefault.branchSentinel
  · exact tableAgrees_copBranch pc hop hs
  · cases hg : tDefault.floatGate z w with
    | true =>
      cases z with
      | cop0 | cop2 => cases hg
      | cop1 => exact tableAgrees_copFloat pc hop hs (floatGate_eq w ▸ hg)
    | false =>
      have hrows := reachedRows_cop hop
      rw [if_neg hs, reached_floatRows hop, hg] at hrows
      refine tableAgrees_copMove pc ?_ hrows
      rw [Profile.copMatch, if_neg hs, hg, if_neg Bool.false_ne_true]

/-! ### The whole decoder -/

/-- The opcode of the regimm family (R260). -/
theorem iTable_regimm : ∀ x ∈ tDefault.iTable, x.2 = .regimm → x.1 = 1#6 := by decide

theorem iTable_cop (z : CopId) : ∀ x ∈ tDefault.iTable, x.2 = .cop z → x.1 = copOpcode z := by
  cases z <;> decide

/-- An opcode that generates one row, keyed on nothing else. -/
theorem reachedRows_of_opcode {w : Word32} {mn : Mnemonic} {form : Form} {zero : Word32}
    (h : opcodeRows (opcodeOf w) = [entryRow mn none form (.field 26 (opcodeOf w)) zero 1]) :
    reachedRows w = [entryRow mn none form (.field 26 (opcodeOf w)) zero 1] := by
  have hs : (Pattern.field 26 (opcodeOf w)).Matches w := (Pattern.field_matches (by decide)).mpr rfl
  rw [reachedRows_eq, h, List.filter_cons, if_pos (reached_entryRow.mpr hs)]
  rfl

theorem tableAgrees_iForm {w : Word32} (pc : Word32) (hr : tDefault.route (opcodeOf w) = .I) :
    TableAgrees (tDefault.iDecode w pc) (tableAnswer w) := by
  unfold Profile.iDecode
  split
  · next hl =>
    have hnil : reachedRows w = [] := by
      rw [reachedRows_eq]
      simp only [opcodeRows, hr, hl]
      rfl
    rw [tableAnswer_of_nil hnil]
    exact .inl rfl
  · next hl => exact tableAgrees_regimm pc (iTable_regimm _ (mem_of_lookup_eq_some hl) rfl)
  · next z hl => exact tableAgrees_cop pc (iTable_cop z _ (mem_of_lookup_eq_some hl) rfl)
  · next mn cls zero likely hl =>
    have hrows : opcodeRows (opcodeOf w) =
        [entryRow mn none .I (.field 26 (opcodeOf w)) (patternMask zero) 1] := by
      simp only [opcodeRows, hr, hl]
    exact .ofIForm (reachedRows_of_opcode hrows) (opcode_and_patternMask zero) and_patternMask_eq_zero

theorem tableAgrees_jForm {w : Word32} (pc : Word32) (hr : tDefault.route (opcodeOf w) = .J) :
    TableAgrees (tDefault.jDecode w pc) (tableAnswer w) := by
  have hrows : opcodeRows (opcodeOf w) =
      [entryRow (if opcodeOf w = tDefault.opJ then .j else .jal) none .J (.field 26 (opcodeOf w)) 0#32 1] := by
    simp only [opcodeRows, hr]
  exact .ofEntry (broken := false) (reachedRows_of_opcode hrows) BitVec.and_zero (by simp) ⟨_, rfl, rfl, rfl, rfl⟩

theorem opcode_of_route {op : BitVec 6} : tDefault.route op = .R → op = 0#6 := by
  revert op
  decide

/-- The decoder and the opcode table, by the route of the opcode (R100, R350). -/
theorem tableAgrees (w pc : Word32) : TableAgrees (tDefault.decode w pc) (tableAnswer w) := by
  unfold Profile.decode
  split
  · next hr => exact tableAgrees_rForm (opcode_of_route hr)
  · next hr => exact tableAgrees_jForm pc hr
  · next hr => exact tableAgrees_iForm pc hr

/-- Settles O5: the rows of the table that a word reached are those of the entry that the decoder looks up, and both
then test the same required-zero fields. -/
theorem opcodeTableAgrees : Obligations.OpcodeTableAgrees := by
  intro w pc
  have agrees := tableAgrees w pc
  cases h : tableAnswer w with
  | accepted row | malformedEncoding | noEntry =>
    rw [h] at agrees
    exact agrees

end Sys2Proof.Machine
end

section
/-! The proof of O57. The general register names and the condition names are lists of literals, compared once; a
floating register's name says its index in decimal digits, so the index can be read back from it. -/

namespace Sys2Proof.Machine

theorem decimalText_eq_repr (n : Nat) : decimalText n = n.repr := rfl

theorem decimalText_injective : Function.Injective decimalText := fun m n h => by
  rwa [decimalText_eq_repr, decimalText_eq_repr, Nat.repr_inj] at h

/-- The name `$f<i>` determines `i` (R122). -/
theorem floatRegisterName_injective : Function.Injective floatRegisterName := fun a b h => by
  have digits : decimalText a.toNat = decimalText b.toNat := String.append_right_inj _ |>.mp h
  exact BitVec.eq_of_toNat_eq (decimalText_injective digits)

theorem bitVec_indices_nodup (w : Nat) : ((List.range (2 ^ w)).map (BitVec.ofNat w)).Nodup := by
  refine List.Nodup.map_on (fun m hm n hn h => ?_) List.nodup_range
  have values : m % 2 ^ w = n % 2 ^ w := by simpa using congrArg BitVec.toNat h
  rwa [Nat.mod_eq_of_lt (List.mem_range.mp hm), Nat.mod_eq_of_lt (List.mem_range.mp hn)] at values

/-- The 32 floating register names are all different (R122). -/
theorem floatRegisterNames_nodup :
    ((List.range 32).map (fun n => floatRegisterName (BitVec.ofNat 5 n))).Nodup := by
  have names := (bitVec_indices_nodup 5).map floatRegisterName_injective
  rwa [List.map_map] at names

/-- The 32 general register names are all different (R121). -/
theorem generalRegisterNames_nodup : generalRegisterNames.Nodup := by decide

/-- The 16 condition names are all different (R123). -/
theorem conditionNames_nodup : conditionNames.Nodup := by decide

/-- The coprocessor branch table has an entry for the ids 0, 1 and 2, and for no other (R124). -/
theorem copBranchName_isSome (id : Nat) (sel : BitVec 2) : (copBranchName id sel).isSome = decide (id < 3) := by
  match id with
  | 0 | 1 | 2 => rfl
  | n + 3 =>
    have absent : ¬ n + 3 < 3 := by omega
    exact (decide_eq_false absent).symm

/-- Settles O57: the two lists of literals by evaluation, the floating names by reading the index back, the
coprocessor names by the id. -/
theorem registerNamesTotal : Obligations.RegisterNamesTotal :=
  ⟨rfl, generalRegisterNames_nodup, rfl, rfl, floatRegisterNames_nodup, rfl, conditionNames_nodup,
    copBranchName_isSome⟩

end Sys2Proof.Machine
end

section
/-! The proofs of O42 to O46. Every R-form instruction runs by accepting its own word (`acceptR`), which moves no
counter and carries no target (R148); so each clause says which name and which word its instruction accepts. -/

namespace Sys2Proof.Machine

/-- An instruction that accepts an R-form word completes, with or without another name (R148). -/
theorem RunsAs.ofAcceptR {i : Instr} {s : State} {mn : Mnemonic} {via : Option Mnemonic} {w : Word32}
    (h : exec i s = acceptR mn via w s) : RunsAs i s ⟨mn, .R, w, none, via, false⟩ 0 0 :=
  ⟨_, h, acceptR_next rfl⟩

/-- Settles O42: the zero amount is the no-op that the shift entry carries (R145). -/
theorem shiftsComplete : Obligations.ShiftsComplete := fun _ _ _ _ _ =>
  ⟨.ofAcceptR rfl, fun _ => .ofAcceptR rfl, .ofAcceptR rfl, .ofAcceptR rfl, .ofAcceptR rfl, .ofAcceptR rfl,
    .ofAcceptR rfl, .ofAcceptR rfl, .ofAcceptR rfl, .ofAcceptR rfl, .ofAcceptR rfl, .ofAcceptR rfl,
    .ofAcceptR rfl, .ofAcceptR rfl, .ofAcceptR rfl, .ofAcceptR rfl⟩

/-- Settles O43: the register jumps are R-form words, so they count as no jump. -/
theorem registerJumpsAndSpecialsComplete : Obligations.RegisterJumpsAndSpecialsComplete := fun _ _ _ _ _ =>
  ⟨.ofAcceptR rfl, .ofAcceptR rfl, .ofAcceptR rfl, .ofAcceptR rfl, .ofAcceptR rfl, .ofAcceptR rfl,
    .ofAcceptR rfl, .ofAcceptR rfl, .ofAcceptR rfl⟩

/-- Settles O44. -/
theorem multiplyDivideComplete : Obligations.MultiplyDivideComplete := fun _ _ _ =>
  ⟨.ofAcceptR rfl, .ofAcceptR rfl, .ofAcceptR rfl, .ofAcceptR rfl, .ofAcceptR rfl, .ofAcceptR rfl,
    .ofAcceptR rfl, .ofAcceptR rfl⟩

/-- Settles O45: a zero second operand is the move that the add-unsigned entry carries (R147). -/
theorem threeRegisterFormsComplete : Obligations.ThreeRegisterFormsComplete := fun _ _ _ _ =>
  ⟨.ofAcceptR rfl, .ofAcceptR rfl, fun _ => .ofAcceptR rfl, .ofAcceptR rfl, .ofAcceptR rfl, .ofAcceptR rfl,
    .ofAcceptR rfl, .ofAcceptR rfl, .ofAcceptR rfl, .ofAcceptR rfl, .ofAcceptR rfl, .ofAcceptR rfl,
    .ofAcceptR rfl, .ofAcceptR rfl, .ofAcceptR rfl⟩

/-- Settles O46: a trap function code is accepted with its code bits in the word, and no trap is taken (R6). -/
theorem trapFormsComplete : Obligations.TrapFormsComplete := fun _ _ _ _ =>
  ⟨.ofAcceptR rfl, .ofAcceptR rfl, .ofAcceptR rfl, .ofAcceptR rfl, .ofAcceptR rfl, .ofAcceptR rfl⟩

end Sys2Proof.Machine
end

section
/-! The proofs of O15, O17 and O18. What R-decode answers at a table entry is said once, for every profile
(`rDecode_cases`): a broken pattern, or the one result that the entry gives the word. The reject classes of the
machine's decoder are those of the decoder over `T_default` (`decode_eq_error_iff`); each class is first located in
the tables of an arbitrary profile, and then the keys of `T_default` are read off its tables, key by key. -/

namespace Sys2Proof.Machine

/-! ### What an R-table entry answers -/

/-- The result of a word that its R-table entry accepts: the two no-op forms, `move`, or the entry's own mnemonic
(R141 (2), (4) to (6)). -/
def REntry.result (e : REntry) (w : Word32) : Insn :=
  if e.kind = .syncClass ∨ (e.kind = .shiftNop ∧ shamtOf w = 0#5) then resultAlias .nop e.mn w
  else if e.kind = .addMove ∧ rtOf w = 0#5 then resultAlias .move e.mn w
  else resultR e.mn w

/-- All that R-decode can answer at an entry (R141): only the sync class is exempt from the zero test (R146). -/
theorem Profile.rDecode_cases {T : Profile} {w : Word32} {e : REntry} (hl : T.rTable.lookup (functOf w) = some e) :
    (e.kind ≠ .syncClass ∧ patternBroken e.zero w = true ∧ T.rDecode w = .rejected .malformedEncoding) ∨
      ((e.kind = .syncClass ∨ patternBroken e.zero w = false) ∧ T.rDecode w = .accepted (e.result w)) := by
  simp only [Profile.rDecode, hl, REntry.result, resultAlias, resultR]
  by_cases hs : e.kind = .syncClass
  · simp [hs]
  · cases hz : patternBroken e.zero w with
    | true => simp [hs]
    | false =>
      by_cases hn : e.kind = .shiftNop ∧ shamtOf w = 0#5
      · simp [hn]
      · by_cases hm : e.kind = .addMove ∧ rtOf w = 0#5 <;> simp [hs, hn, hm]

/-- Settles O18: `REntry.result` is the chain of the statement, and the sync class is never tested. -/
theorem aliasForms : Obligations.AliasForms := by
  intro T _ w pc e hr hl
  have hd : T.decode w pc = T.rDecode w := by simp only [Profile.decode, hr]
  rw [hd]
  obtain ⟨hs, -, hd⟩ | ⟨-, hd⟩ := Profile.rDecode_cases hl
  · exact ⟨fun h => absurd h hs, fun insn h => by rw [hd] at h; cases h⟩
  · rw [hd]
    refine ⟨fun h => ?_, fun insn h => ?_⟩
    · rw [REntry.result, if_pos (.inl h)]
    · cases h
      rfl

/-! ### Where a profile rejects -/

/-- The two decoders reject the same words with the same class (R355). -/
theorem decode_eq_error_iff {w : Word32} {c : RejectClass} (pc : Word32) :
    decode w = .error c ↔ tDefault.decode w pc = .rejected c := by
  have agree := decode_agrees w pc
  cases hd : decode w with
  | error c' =>
    have hr : tDefault.decode w pc = .rejected c' := by rwa [hd] at agree
    simp [hr]
  | ok i =>
    rw [hd] at agree
    obtain ⟨insn, ha, -⟩ := agree
    simp [ha]

/-- J-decode rejects nothing (W10). -/
theorem Profile.decode_eq_rejected_iff {T : Profile} {w pc : Word32} {c : RejectClass} :
    T.decode w pc = .rejected c ↔
      (T.route (opcodeOf w) = .R ∧ T.rDecode w = .rejected c) ∨
      (T.route (opcodeOf w) = .I ∧ T.iDecode w pc = .rejected c) := by
  unfold Profile.decode
  cases T.route (opcodeOf w) <;> simp [Profile.jDecode]

/-- The function code has no entry (R144). -/
theorem Profile.rDecode_eq_unknownSelector_iff {T : Profile} {w : Word32} :
    T.rDecode w = .rejected .unknownSelector ↔ T.rTable.lookup (functOf w) = none := by
  cases hl : T.rTable.lookup (functOf w) with
  | none => simp [Profile.rDecode, hl]
  | some e => obtain ⟨-, -, hd⟩ | ⟨-, hd⟩ := Profile.rDecode_cases hl <;> simp [hd]

/-- A required-zero field of the function code's entry is not zero (R142). -/
theorem Profile.rDecode_eq_malformedEncoding_iff {T : Profile} {w : Word32} :
    T.rDecode w = .rejected .malformedEncoding ↔
      ∃ e, T.rTable.lookup (functOf w) = some e ∧ e.kind ≠ .syncClass ∧ patternBroken e.zero w = true := by
  cases hl : T.rTable.lookup (functOf w) with
  | none => simp [Profile.rDecode, hl]
  | some e =>
    obtain ⟨hs, hz, hd⟩ | ⟨hk, hd⟩ := Profile.rDecode_cases hl
    · simp [hd, hs, hz]
    · rw [hd]
      obtain hs | hz := hk
      · simp [hs]
      · simp [hz]

/-- The two ways to accept an I-form word reject nothing. -/
theorem acceptedIForm_ne_rejected {p : Prop} [Decidable p] {mn : Mnemonic} {w pc : Word32} {u : Bool}
    {c : RejectClass} : (if p then acceptedBranch mn w pc u else acceptedPlain mn w u) ≠ .rejected c := by
  split <;> exact nofun

/-- The regimm family rejects under two classes (R260, R275). -/
theorem Profile.regimmDecode_eq_malformedEncoding_iff {T : Profile} {w pc : Word32} :
    T.regimmDecode w pc = .rejected .malformedEncoding ↔
      ∃ e, T.regimmTable.lookup (rtOf w) = some e ∧ patternBroken e.zero w = true := by
  obtain ⟨hl, hd⟩ | ⟨e, hl, ⟨hz, hd⟩ | ⟨hz, hd⟩⟩ := T.regimmDecode_cases w pc
  · simp [hl, hd]
  · simp [hl, hd, hz]
  · simp [hl, hd, hz, acceptedIForm_ne_rejected]

/-- The cascade rejects a word it matched when the zero test of the entry fails (R287). -/
theorem Profile.copDecode_eq_malformedEncoding_iff {T : Profile} {z : CopId} {w pc : Word32} :
    T.copDecode z w pc = .rejected .malformedEncoding ↔
      ∃ step e, T.copMatch z w = some (step, e) ∧ copMalformed step e w = true := by
  obtain ⟨hm, hd⟩ | ⟨step, e, hm, ⟨hz, hd⟩ | ⟨hz, hd⟩⟩ := T.copDecode_cases z w pc
  · simp [hm, hd]
  · simp [hm, hd, hz]
  · simp [hm, hd, hz, acceptedIForm_ne_rejected]

theorem Profile.regimmDecode_ne_unknownSelector {T : Profile} {w pc : Word32} :
    T.regimmDecode w pc ≠ .rejected .unknownSelector := by
  obtain ⟨-, hd⟩ | ⟨e, -, ⟨-, hd⟩ | ⟨-, hd⟩⟩ := T.regimmDecode_cases w pc <;>
    simp [hd, acceptedIForm_ne_rejected]

theorem Profile.copDecode_ne_unknownSelector {T : Profile} {z : CopId} {w pc : Word32} :
    T.copDecode z w pc ≠ .rejected .unknownSelector := by
  obtain ⟨-, hd⟩ | ⟨step, e, -, ⟨-, hd⟩ | ⟨-, hd⟩⟩ := T.copDecode_cases z w pc <;>
    simp [hd, acceptedIForm_ne_rejected]

/-- The required-zero fields of an I-table entry that is itself a sub-form (R210). -/
def IEntry.zero : IEntry → List ZeroField
  | .direct _ _ zero _ => zero
  | .regimm | .cop _ => []

/-- The opcode has no entry (R218). -/
theorem Profile.iDecode_eq_unknownSelector_iff {T : Profile} {w pc : Word32} :
    T.iDecode w pc = .rejected .unknownSelector ↔ T.iTable.lookup (opcodeOf w) = none := by
  unfold Profile.iDecode
  split
  · next hl => simp [hl]
  · next hl => simp [hl, Profile.regimmDecode_ne_unknownSelector]
  · next z hl => simp [hl, Profile.copDecode_ne_unknownSelector]
  · next mn cls zero likely hl => cases patternBroken zero w <;> simp [hl, acceptedIForm_ne_rejected]

/-- A required-zero field of the opcode's own entry is not zero, or the opcode's family says so (R211, R217). -/
theorem Profile.iDecode_eq_malformedEncoding_iff {T : Profile} {w pc : Word32} :
    T.iDecode w pc = .rejected .malformedEncoding ↔
      (∃ e, T.iTable.lookup (opcodeOf w) = some e ∧ patternBroken e.zero w = true) ∨
      (T.iTable.lookup (opcodeOf w) = some .regimm ∧ T.regimmDecode w pc = .rejected .malformedEncoding) ∨
      ∃ z, T.iTable.lookup (opcodeOf w) = some (.cop z) ∧ T.copDecode z w pc = .rejected .malformedEncoding := by
  unfold Profile.iDecode
  split
  · next hl => simp [hl]
  · next hl => simp [hl, IEntry.zero]
  · next z hl => simp [hl, IEntry.zero]
  · next mn cls zero likely hl =>
    cases hz : patternBroken zero w <;> simp [hl, hz, IEntry.zero, acceptedIForm_ne_rejected]

/-! ### The keys of `T_default` -/

theorem route_eq_R_iff {op : BitVec 6} : tDefault.route op = .R ↔ op = 0 :=
  ⟨opcode_of_route, fun h => by rw [h]; rfl⟩

/-- Every key of the I-table is routed to I-decode (W7). -/
theorem iTable_route : ∀ x ∈ tDefault.iTable, tDefault.route x.1 = .I := by decide

/-- The twelve function codes without an entry (R202). -/
theorem rTable_unmapped_iff : ∀ funct : BitVec 6, tDefault.rTable.lookup funct = none ↔
    funct ∈ ([1, 5, 10, 11, 14, 21, 40, 41, 53, 55, 57, 61] : List (BitVec 6)) := by decide

/-- The 22 opcodes of I-decode without an entry (R255). -/
theorem iTable_unmapped_iff : ∀ op : BitVec 6, tDefault.route op = .I ∧ tDefault.iTable.lookup op = none ↔
    op ∈ ([19, 22, 23, 26, 27, 28, 29, 30, 31, 44, 45, 48, 50, 51, 52, 54, 56, 58, 59, 60, 62, 63] :
      List (BitVec 6)) := by decide

/-- Settles O15: the class is a missing entry of the R-table or of the I-table, whose keys are finitely many. -/
theorem unknownSelectorExactly : Obligations.UnknownSelectorExactly := by
  intro w
  rw [decode_eq_error_iff 0#32, Profile.decode_eq_rejected_iff, Profile.rDecode_eq_unknownSelector_iff,
    Profile.iDecode_eq_unknownSelector_iff, route_eq_R_iff, rTable_unmapped_iff, iTable_unmapped_iff]

/-! ### The required-zero fields of `T_default` -/

theorem patternBroken_eq_true_iff {zero : List ZeroField} {w : Word32} :
    patternBroken zero w = true ↔ ∃ f ∈ zero, f.value w ≠ 0#5 := by
  simp [patternBroken]

/-- The patterns of a table, each with the keys it belongs to. -/
abbrev ZeroGroups := List (List (BitVec 6) × List ZeroField)

/-- Key by key, the groups say which fields the entry of a table requires to be zero. -/
def GroupedAs {ε : Type} (table : List (BitVec 6 × ε)) (zero : ε → List ZeroField) (groups : ZeroGroups) : Prop :=
  ∀ (key : BitVec 6) (f : ZeroField),
    f ∈ (table.lookup key).elim [] zero ↔ ∃ g ∈ groups, key ∈ g.1 ∧ f ∈ g.2

/-- The zero test of the entry that a key selects, read from the groups. -/
theorem GroupedAs.broken_iff {ε : Type} {table : List (BitVec 6 × ε)} {zero : ε → List ZeroField}
    {groups : ZeroGroups} (h : GroupedAs table zero groups) (key : BitVec 6) (w : Word32) :
    (∃ e, table.lookup key = some e ∧ patternBroken (zero e) w = true) ↔
      ∃ g ∈ groups, key ∈ g.1 ∧ patternBroken g.2 w = true := by
  have hsel : (∃ e, table.lookup key = some e ∧ patternBroken (zero e) w = true) ↔
      patternBroken ((table.lookup key).elim [] zero) w = true := by
    cases table.lookup key <;> simp
  rw [hsel, patternBroken_eq_true_iff]
  simp only [h key, patternBroken_eq_true_iff]
  constructor
  · rintro ⟨f, ⟨g, hg, hkey, hf⟩, hv⟩
    exact ⟨g, hg, hkey, f, hf, hv⟩
  · rintro ⟨g, hg, hkey, f, hf, hv⟩
    exact ⟨f, ⟨g, hg, hkey, hf⟩, hv⟩

/-- The patterns of the function codes (R150 to R201). -/
def rZeroGroups : ZeroGroups :=
  [([0, 2, 3, 56, 58, 59, 60, 62, 63], [.rs]),
   ([4, 6, 7, 20, 22, 23, 32, 33, 34, 35, 36, 37, 38, 39, 42, 43, 44, 45, 46, 47], [.shamt]),
   ([8, 17, 19], [.rt, .rd, .shamt]),
   ([9], [.rt, .shamt]),
   ([16, 18], [.rs, .rt, .shamt]),
   ([24, 25, 26, 27, 28, 29, 30, 31], [.rd, .shamt])]

/-- The patterns of the directly mapped opcodes (R217). -/
def iZeroGroups : ZeroGroups := [([6, 7], [.rt]), ([15], [.rs])]

theorem rTable_groupedAs : GroupedAs tDefault.rTable REntry.zero rZeroGroups := by
  intro key f
  cases f <;> revert key <;> decide

theorem iTable_groupedAs : GroupedAs tDefault.iTable IEntry.zero iZeroGroups := by
  intro key f
  cases f <;> revert key <;> decide

/-- The sync class has no pattern that its exemption could matter to (R146). -/
theorem rTable_syncClass_zero : ∀ x ∈ tDefault.rTable, x.2.kind = .syncClass → x.2.zero = [] := by decide

/-- The function codes whose fields are tested (R150 to R201). -/
theorem rDecode_malformed_iff {w : Word32} : tDefault.rDecode w = .rejected .malformedEncoding ↔
    ∃ g ∈ rZeroGroups, functOf w ∈ g.1 ∧ patternBroken g.2 w = true := by
  rw [Profile.rDecode_eq_malformedEncoding_iff, ← rTable_groupedAs.broken_iff]
  refine exists_congr fun e => and_congr_right fun hl => and_iff_right_of_imp fun hz hs => ?_
  rw [rTable_syncClass_zero _ (mem_of_lookup_eq_some hl) hs] at hz
  cases hz

/-- No regimm entry of `T_default` has a pattern (D4). -/
theorem regimmDecode_ne_malformed {w pc : Word32} :
    tDefault.regimmDecode w pc ≠ .rejected .malformedEncoding := by
  rw [Ne, Profile.regimmDecode_eq_malformedEncoding_iff]
  rintro ⟨e, hl, hz⟩
  rw [defaultRegimmTable_zero _ (mem_of_lookup_eq_some hl)] at hz
  cases hz

/-! ### The zero tests of the cascade -/

/-- The function codes behind the gate with one operand: `ft` required zero (R283, R306 to R314). -/
def oneOperandCodes : List (BitVec 6) := [4, 7, 12, 13, 14, 15, 32, 33, 36]

theorem floatTable_zero : ∀ x ∈ tDefault.floatTable,
    x.2.zero = if x.1 ∈ oneOperandCodes then [.rt] else [] := by decide

theorem floatTable_lookup_isSome : ∀ funct ∈ oneOperandCodes, (tDefault.floatTable.lookup funct).isSome = true := by
  decide

/-- The gate opens on the upper half of the tags (R282). -/
theorem floatGateOf_eq_true_iff {w : Word32} : floatGateOf w = true ↔ 16 ≤ (rsOf w).toNat := by
  have htop : ∀ rs : BitVec 5, rs.getLsbD 4 = true ↔ 16 ≤ rs.toNat := by decide
  rw [floatGateOf_eq, htop]

theorem floatGate_eq_true_iff {z : CopId} {w : Word32} :
    tDefault.floatGate z w = true ↔ z = .cop1 ∧ 16 ≤ (rsOf w).toNat := by
  cases z with
  | cop0 | cop2 => simp [Profile.floatGate]
  | cop1 => simp [floatGate_eq, floatGateOf_eq_true_iff]

/-- The zero test of step (b): the compare form has none (R283, R284). -/
theorem floatMatch_broken_iff {w : Word32} :
    (∃ e, tDefault.floatMatch w = some e ∧ copPatternBroken e.zero w = true) ↔
      functOf w ∈ oneOperandCodes ∧ rtOf w ≠ 0 := by
  unfold Profile.floatMatch
  cases hl : tDefault.floatTable.lookup (functOf w) with
  | some e =>
    have hz : e.zero = if functOf w ∈ oneOperandCodes then [.rt] else [] :=
      floatTable_zero _ (mem_of_lookup_eq_some hl)
    by_cases hf : functOf w ∈ oneOperandCodes <;>
      simp [hz, hf, copPatternBroken, CopZeroField.isZero]
  | none =>
    have hf : functOf w ∉ oneOperandCodes := fun h => by simpa [hl] using floatTable_lookup_isSome _ h
    by_cases hc : compareWindowOf w = tDefault.compareWindow <;>
      simp [hc, hf, show tDefault.compare.zero = [] from rfl]

/-- The move set of each id has the same six keys (R92, D8). -/
theorem moveTable_lookup_isSome_iff (z : CopId) : ∀ rs : BitVec 5,
    ((tDefault.moveTable.get z).lookup rs).isSome = true ↔ rs ∈ ([0, 1, 2, 4, 5, 6] : List (BitVec 5)) := by
  cases z <;> decide

/-- A key of the move set is left to step (c): it is neither the sentinel nor behind the gate (W9, R286). -/
theorem copMatch_of_moveTable {z : CopId} {w : Word32} {e : CopEntry}
    (hl : (tDefault.moveTable.get z).lookup (rsOf w) = some e) : tDefault.copMatch z w = some (.move, e) := by
  have hs : rsOf w ≠ tDefault.branchSentinel := fun h => by simp [h, moveTable_lookup_sentinel] at hl
  have hg : tDefault.floatGate z w = false := floatGate_eq_false fun hz hg => by
    subst hz
    simp [moveTable_lookup_of_gate hg] at hl
  simp [Profile.copMatch, Profile.moveMatch, hs, hg, hl]

/-- The zero test of step (c): no entry of the move set has a pattern of its own (R286). -/
theorem copMalformed_move_iff {z : CopId} {w : Word32} {e : CopEntry}
    (hl : (tDefault.moveTable.get z).lookup (rsOf w) = some e) :
    copMalformed .move e w = true ↔ immLow11Of w ≠ 0 := by
  simp [copMalformed, show e.zero = [] from moveTable_zero z _ (mem_of_lookup_eq_some hl)]

/-- The coprocessor words whose fields are tested: `ft` of a one-operand form behind the gate, and the low eleven
bits of a move (R283, R286, R287). -/
theorem copDecode_malformed_iff {z : CopId} {w pc : Word32} :
    tDefault.copDecode z w pc = .rejected .malformedEncoding ↔
      (z = .cop1 ∧ 16 ≤ (rsOf w).toNat ∧ functOf w ∈ oneOperandCodes ∧ rtOf w ≠ 0) ∨
      (rsOf w ∈ ([0, 1, 2, 4, 5, 6] : List (BitVec 5)) ∧ immLow11Of w ≠ 0) := by
  rw [Profile.copDecode_eq_malformedEncoding_iff]
  constructor
  · rintro ⟨step, e, hm, hz⟩
    obtain ⟨rfl, -, rfl⟩ | ⟨rfl, -, hg, hf⟩ | ⟨rfl, -, hl⟩ := Profile.copMatch_cases hm
    · rw [copMalformed, branch_zero] at hz
      cases hz
    · obtain ⟨hcop, hrs⟩ := floatGate_eq_true_iff.mp hg
      exact .inl ⟨hcop, hrs, floatMatch_broken_iff.mp ⟨e, hf, by simpa [copMalformed] using hz⟩⟩
    · exact .inr ⟨(moveTable_lookup_isSome_iff z _).mp (by rw [hl]; rfl), (copMalformed_move_iff hl).mp hz⟩
  · rintro (⟨rfl, hrs, hb⟩ | ⟨hr, hi⟩)
    · obtain ⟨e, hf, hz⟩ := floatMatch_broken_iff.mpr hb
      have hs : rsOf w ≠ tDefault.branchSentinel := fun h => absurd (h ▸ hrs) (by decide)
      exact ⟨_, e, copMatch_of_floatMatch hs (floatGateOf_eq_true_iff.mpr hrs) hf, by simp [copMalformed, hz]⟩
    · obtain ⟨e, hl⟩ := Option.isSome_iff_exists.mp ((moveTable_lookup_isSome_iff z _).mpr hr)
      exact ⟨.move, e, copMatch_of_moveTable hl, (copMalformed_move_iff hl).mpr hi⟩

/-! ### The malformed words -/

theorem iTable_lookup_eq_cop_iff (z : CopId) : ∀ op : BitVec 6,
    tDefault.iTable.lookup op = some (.cop z) ↔ op = copOpcode z := by
  cases z <;> decide

/-- The opcodes of I-decode whose fields are tested (R217, R287). -/
theorem iDecode_malformed_iff {w pc : Word32} : tDefault.iDecode w pc = .rejected .malformedEncoding ↔
    (∃ g ∈ iZeroGroups, opcodeOf w ∈ g.1 ∧ patternBroken g.2 w = true) ∨
    ∃ z, opcodeOf w = copOpcode z ∧ tDefault.copDecode z w pc = .rejected .malformedEncoding := by
  simp only [Profile.iDecode_eq_malformedEncoding_iff, iTable_groupedAs.broken_iff, regimmDecode_ne_malformed,
    and_false, false_or, iTable_lookup_eq_cop_iff]

/-- I-decode answers the class for its own opcodes only. -/
theorem route_of_iDecode_malformed {w pc : Word32} (h : tDefault.iDecode w pc = .rejected .malformedEncoding) :
    tDefault.route (opcodeOf w) = .I := by
  cases hl : tDefault.iTable.lookup (opcodeOf w) with
  | none => simp [Profile.iDecode, hl] at h
  | some e => exact iTable_route _ (mem_of_lookup_eq_some hl)

/-- The three coprocessor opcodes, the second of them with a condition of its own. -/
theorem exists_copOpcode_iff {op : BitVec 6} {p q : Prop} :
    (∃ z, op = copOpcode z ∧ (z = .cop1 ∧ p ∨ q)) ↔
      (op = 17 ∧ p) ∨ (op ∈ ([16, 17, 18] : List (BitVec 6)) ∧ q) := by
  simp only [List.mem_cons, List.not_mem_nil, or_false]
  constructor
  · rintro ⟨z, rfl, ⟨rfl, hp⟩ | hq⟩
    · exact .inl ⟨rfl, hp⟩
    · exact .inr ⟨by cases z <;> decide, hq⟩
  · rintro (⟨rfl, hp⟩ | ⟨rfl | rfl | rfl, hq⟩)
    · exact ⟨.cop1, rfl, .inl ⟨rfl, hp⟩⟩
    · exact ⟨.cop0, rfl, .inr hq⟩
    · exact ⟨.cop1, rfl, .inr hq⟩
    · exact ⟨.cop2, rfl, .inr hq⟩

/-- Settles O17: the class is a broken pattern at the entry of the function code, at that of the opcode, or in the
cascade, and for `T_default` the groups spell the patterns out. -/
theorem malformedEncodingExactly : Obligations.MalformedEncodingExactly := by
  intro w
  rw [decode_eq_error_iff 0#32, Profile.decode_eq_rejected_iff, and_iff_right_of_imp route_of_iDecode_malformed,
    route_eq_R_iff, rDecode_malformed_iff, iDecode_malformed_iff]
  simp only [copDecode_malformed_iff, exists_copOpcode_iff]
  simp [rZeroGroups, iZeroGroups, oneOperandCodes, patternBroken, ZeroField.value, or_assoc]

end Sys2Proof.Machine
end

section
/-! The proofs of O8 and O9. In every well-formed profile the mark of an accepted word is `unconditionalWord` of the
word (`Profile.WellFormed.decode_ubranch`): only the direct entries of the I-table can set it, and W2 keeps opcode 4 a
direct entry. -/

namespace Sys2Proof.Machine

/-! ### The all-ones word -/

/-- Settles O8: the opcode of the all-ones word is 63, which W3 routes to I-decode and keeps out of the I-table. -/
theorem allOnesWordRejected : Obligations.AllOnesWordRejected := by
  intro T hT pc
  obtain ⟨hroute, hnone⟩ := hT.opcode63
  have hop : opcodeOf 0xFFFFFFFF#32 = 63#6 := by decide
  refine Profile.decode_eq_rejected_iff.mpr (.inr ⟨hop ▸ hroute, ?_⟩)
  exact Profile.iDecode_eq_unknownSelector_iff.mpr (hop ▸ hnone)

/-! ### The mark of an accepted word -/

theorem isUnconditional_eq_true_iff {rs rt : BitVec 5} :
    isUnconditional rs rt = true ↔ rs = 0#5 ∧ rt = 0#5 := by
  simp [isUnconditional]

theorem unconditionalWord_eq_true_iff {w : Word32} :
    unconditionalWord w = true ↔ opcodeOf w = 4#6 ∧ rsOf w = 0#5 ∧ rtOf w = 0#5 := by
  simp [unconditionalWord, isUnconditional_eq_true_iff]

/-- Both ways to accept an I-form word set the mark they are given. -/
theorem ubranch_of_acceptedIForm {p : Prop} [Decidable p] {mn : Mnemonic} {w pc : Word32} {u : Bool} {insn : Insn}
    (h : (if p then acceptedBranch mn w pc u else acceptedPlain mn w u) = .accepted insn) : insn.ubranch = u := by
  split at h <;> cases h <;> rfl

/-- An R-form result is not marked, under its own name or another (R148). -/
@[simp] theorem REntry.result_ubranch (e : REntry) (w : Word32) : (e.result w).ubranch = false := by
  unfold REntry.result
  split_ifs <;> rfl

theorem Profile.rDecode_ubranch {T : Profile} {w : Word32} {insn : Insn} (h : T.rDecode w = .accepted insn) :
    insn.ubranch = false := by
  cases hl : T.rTable.lookup (functOf w) with
  | none => simp [Profile.rDecode, hl] at h
  | some e =>
    obtain ⟨-, -, hd⟩ | ⟨-, hd⟩ := Profile.rDecode_cases hl <;> rw [hd] at h <;> cases h
    exact e.result_ubranch w

theorem Profile.regimmDecode_ubranch {T : Profile} {w pc : Word32} {insn : Insn}
    (h : T.regimmDecode w pc = .accepted insn) : insn.ubranch = false := by
  obtain ⟨-, hd⟩ | ⟨e, -, ⟨-, hd⟩ | ⟨-, hd⟩⟩ := T.regimmDecode_cases w pc <;> rw [hd] at h
  · cases h
  · cases h
  · exact ubranch_of_acceptedIForm h

theorem Profile.copDecode_ubranch {T : Profile} {z : CopId} {w pc : Word32} {insn : Insn}
    (h : T.copDecode z w pc = .accepted insn) : insn.ubranch = false := by
  obtain ⟨-, hd⟩ | ⟨step, e, -, ⟨-, hd⟩ | ⟨-, hd⟩⟩ := T.copDecode_cases z w pc <;> rw [hd] at h
  · cases h
  · cases h
  · exact ubranch_of_acceptedIForm h

/-- The mark of an I-form result: a family entry sets none, and no family entry stands at opcode 4 (W2, R214). -/
theorem Profile.WellFormed.iDecode_ubranch {T : Profile} (hT : T.WellFormed) {w pc : Word32} {insn : Insn}
    (h : T.iDecode w pc = .accepted insn) : insn.ubranch = unconditionalWord w := by
  obtain ⟨-, mn, likely, h4⟩ := hT.opcode4
  unfold Profile.iDecode at h
  split at h
  · cases h
  · next hl =>
    have hop : opcodeOf w ≠ 4#6 := fun hop => by simp [hop, h4] at hl
    rw [Profile.regimmDecode_ubranch h, unconditionalWord_of_ne hop]
  · next z hl =>
    have hop : opcodeOf w ≠ 4#6 := fun hop => by simp [hop, h4] at hl
    rw [Profile.copDecode_ubranch h, unconditionalWord_of_ne hop]
  · split at h
    · cases h
    · exact ubranch_of_acceptedIForm h

/-- The mark of an accepted word is the unconditional-branch pattern, in every well-formed profile: W2 routes opcode 4
to I-decode, so the R-form and J-form results, which are not marked, are of other opcodes (R214). -/
theorem Profile.WellFormed.decode_ubranch {T : Profile} (hT : T.WellFormed) {w pc : Word32} {insn : Insn}
    (h : T.decode w pc = .accepted insn) : insn.ubranch = unconditionalWord w := by
  have opcode_ne (hr : T.route (opcodeOf w) ≠ .I) : opcodeOf w ≠ 4#6 := fun hop => hr (hop ▸ hT.opcode4.1)
  unfold Profile.decode at h
  split at h
  · next hr =>
    rw [Profile.rDecode_ubranch h, unconditionalWord_of_ne (opcode_ne (by simp [hr]))]
  · next hr =>
    cases h
    rw [unconditionalWord_of_ne (opcode_ne (by simp [hr]))]
  · exact hT.iDecode_ubranch h

/-! ### The unconditional-branch pattern -/

/-- Every word of the pattern is accepted at the entry that W2 puts at opcode 4, with the mark (R214). -/
theorem Profile.decode_unconditional {T : Profile} {mn : Mnemonic} {likely : Bool} (hr : T.route 4#6 = .I)
    (hl : T.iTable.lookup 4#6 = some (.direct mn .branchTwoRegister [] likely)) (imm : BitVec 16) (pc : Word32) :
    T.decode (iWord 4 0 0 imm) pc =
      .accepted ⟨mn, .I, iWord 4 0 0 imm, some (branchTarget pc imm), none, true⟩ := by
  have hu : unconditionalWord (iWord 4#6 0#5 0#5 imm) = true := unconditionalWord_eq_true_iff.mpr (by simp)
  simp [Profile.decode, Profile.iDecode, hr, hl, IClass.isBranch, acceptedBranch, hu]

/-- A scanning step over an accepted word (R363). -/
theorem Profile.scanStep_of_accepted {T : Profile} {s : State} {w : Word32} {insn : Insn} (hw : Reads s w)
    (hd : T.decode w s.programCounter = .accepted insn) : T.scanStep s = s.accepted insn := by
  obtain ⟨hf, hread⟩ := hw
  simp only [Profile.scanStep, hf, hread, hd]

/-- Settles O9: the mark is the pattern, the pattern is accepted at the opcode-4 entry, and acceptance adds the mark
to `branch_count`. -/
theorem unconditionalBranchPattern : Obligations.UnconditionalBranchPattern := by
  intro T hT
  obtain ⟨hr, mn, likely, hl⟩ := hT.opcode4
  refine ⟨fun w pc insn h => ?_, fun imm pc => ?_, fun s w insn hw hd => ?_⟩
  · rw [hT.decode_ubranch h, unconditionalWord_eq_true_iff]
  · exact ⟨mn, likely, hl, Profile.decode_unconditional hr hl imm pc⟩
  · rw [Profile.scanStep_of_accepted hw hd]
    exact (acceptedStep_accepted s insn).branchCount

end Sys2Proof.Machine
end

section
/-! The proofs of O47 to O49. A direct I-form instruction runs by accepting its own word, as a branch with its target
(`acceptBranch`) or without one (`acceptI`); only the mark of a branch moves a counter (R214, R219). -/

namespace Sys2Proof.Machine

/-- An instruction that accepts an I-form word without a target completes (R219). -/
theorem RunsAs.ofAcceptI {i : Instr} {s : State} {mn : Mnemonic} {w : Word32} (h : exec i s = acceptI mn w s) :
    RunsAs i s (resultI mn w) 0 0 :=
  ⟨_, h, acceptI_next rfl⟩

/-- An instruction that accepts a branch-class word completes with its target, counted under the mark (R212, R214). -/
theorem RunsAs.ofAcceptBranch {i : Instr} {s : State} {mn : Mnemonic} {w : Word32} {imm : BitVec 16}
    {ubranch : Bool} (h : exec i s = acceptBranch mn w imm ubranch s) :
    RunsAs i s ⟨mn, .I, w, some (branchTarget s.programCounter imm), none, ubranch⟩ 0 (if ubranch then 1 else 0) :=
  ⟨_, h, acceptBranch_next rfl⟩

/-- A branch without the mark is not counted (R214). -/
theorem RunsAs.ofAcceptBranchUnmarked {i : Instr} {s : State} {mn : Mnemonic} {w : Word32} {imm : BitVec 16}
    (h : exec i s = acceptBranch mn w imm false s) : RunsAs i s (resultBranch mn w s.programCounter imm) 0 0 :=
  .ofAcceptBranch h

/-- `beq` carries the mark of its two register fields (R214, R220). -/
theorem runsAs_beq (s : State) (rs rt : BitVec 5) (imm : BitVec 16) :
    RunsAs (.beq rs rt imm) s
      ⟨.beq, .I, iWord 4 rs rt imm, some (branchTarget s.programCounter imm), none, isUnconditional rs rt⟩
      0 (if rs = 0#5 ∧ rt = 0#5 then 1 else 0) := by
  simp only [← isUnconditional_eq_true_iff]
  exact .ofAcceptBranch rfl

/-- Settles O47: `beq` alone can carry the mark. -/
theorem directBranchesComplete : Obligations.DirectBranchesComplete := fun s rs rt imm =>
  ⟨runsAs_beq s rs rt imm, .ofAcceptBranchUnmarked rfl, .ofAcceptBranchUnmarked rfl, .ofAcceptBranchUnmarked rfl,
    .ofAcceptBranchUnmarked rfl, .ofAcceptBranchUnmarked rfl⟩

/-- Settles O48: the load-upper form, whose `rs` is required zero, is accepted as the nine others are (R216). -/
theorem immediateArithmeticComplete : Obligations.ImmediateArithmeticComplete := fun _ _ _ _ =>
  ⟨.ofAcceptI rfl, .ofAcceptI rfl, .ofAcceptI rfl, .ofAcceptI rfl, .ofAcceptI rfl, .ofAcceptI rfl, .ofAcceptI rfl,
    .ofAcceptI rfl, .ofAcceptI rfl, .ofAcceptI rfl⟩

/-- Settles O49: a memory form is accepted as any other I-form word is, so every byte stays (R215). -/
theorem memoryFormsComplete : Obligations.MemoryFormsComplete := fun _ _ _ _ _ _ =>
  ⟨.ofAcceptI rfl, .ofAcceptI rfl, .ofAcceptI rfl, .ofAcceptI rfl, .ofAcceptI rfl, .ofAcceptI rfl, .ofAcceptI rfl,
    .ofAcceptI rfl, .ofAcceptI rfl, .ofAcceptI rfl, .ofAcceptI rfl, .ofAcceptI rfl, .ofAcceptI rfl, .ofAcceptI rfl,
    .ofAcceptI rfl, .ofAcceptI rfl, .ofAcceptI rfl, .ofAcceptI rfl, .ofAcceptI rfl⟩

end Sys2Proof.Machine
end

section
/-! The proofs of O16 and O50. The class of O16 is located in the tables of an arbitrary profile first: a regimm value
without an entry, or a coprocessor word that all three steps of the cascade leave (`copMatch_eq_none_iff`); then the
keys of `T_default` are read off its tables. The clauses of O50 are accepting runs, as those of O47 to O49 are. -/

namespace Sys2Proof.Machine

/-! ### Where a profile finds no sub-form -/

theorem Profile.rDecode_ne_unsupportedSubform {T : Profile} {w : Word32} :
    T.rDecode w ≠ .rejected .unsupportedSubform := by
  cases hl : T.rTable.lookup (functOf w) with
  | none => simp [Profile.rDecode, hl]
  | some e => obtain ⟨-, -, hd⟩ | ⟨-, hd⟩ := Profile.rDecode_cases hl <;> simp [hd]

/-- The secondary value has no entry (R275). -/
theorem Profile.regimmDecode_eq_unsupportedSubform_iff {T : Profile} {w pc : Word32} :
    T.regimmDecode w pc = .rejected .unsupportedSubform ↔ T.regimmTable.lookup (rtOf w) = none := by
  obtain ⟨hl, hd⟩ | ⟨e, hl, ⟨-, hd⟩ | ⟨-, hd⟩⟩ := T.regimmDecode_cases w pc <;>
    simp [hl, hd, acceptedIForm_ne_rejected]

/-- No step of the cascade matches the word (R287). -/
theorem Profile.copDecode_eq_unsupportedSubform_iff {T : Profile} {z : CopId} {w pc : Word32} :
    T.copDecode z w pc = .rejected .unsupportedSubform ↔ T.copMatch z w = none := by
  obtain ⟨hm, hd⟩ | ⟨step, e, hm, ⟨-, hd⟩ | ⟨-, hd⟩⟩ := T.copDecode_cases z w pc <;>
    simp [hm, hd, acceptedIForm_ne_rejected]

/-- Only the two families have sub-forms that can be missing (R211). -/
theorem Profile.iDecode_eq_unsupportedSubform_iff {T : Profile} {w pc : Word32} :
    T.iDecode w pc = .rejected .unsupportedSubform ↔
      (T.iTable.lookup (opcodeOf w) = some .regimm ∧ T.regimmTable.lookup (rtOf w) = none) ∨
      ∃ z, T.iTable.lookup (opcodeOf w) = some (.cop z) ∧ T.copMatch z w = none := by
  unfold Profile.iDecode
  split
  · next hl => simp [hl]
  · next hl => simp [hl, Profile.regimmDecode_eq_unsupportedSubform_iff]
  · next z hl => simp [hl, Profile.copDecode_eq_unsupportedSubform_iff]
  · next mn cls zero likely hl => cases patternBroken zero w <;> simp [hl, acceptedIForm_ne_rejected]

/-- Step (b) leaves a word that neither its table nor the compare window matches (R283, R284). -/
theorem Profile.floatMatch_eq_none_iff {T : Profile} {w : Word32} :
    T.floatMatch w = none ↔ T.floatTable.lookup (functOf w) = none ∧ compareWindowOf w ≠ T.compareWindow := by
  unfold Profile.floatMatch
  cases T.floatTable.lookup (functOf w) <;> simp

/-- The cascade leaves a word that each of its steps leaves (R280). -/
theorem Profile.copMatch_eq_none_iff {T : Profile} {z : CopId} {w : Word32} :
    T.copMatch z w = none ↔
      rsOf w ≠ T.branchSentinel ∧ (T.moveTable.get z).lookup (rsOf w) = none ∧
        ¬ (T.floatGate z w = true ∧ T.floatMatch w ≠ none) := by
  unfold Profile.copMatch
  by_cases hs : rsOf w = T.branchSentinel
  · simp [hs]
  · cases hg : T.floatGate z w with
    | false => simp [hs, Profile.moveMatch]
    | true => cases hm : T.floatMatch w <;> simp [hs, Profile.moveMatch]

/-! ### The keys of `T_default` in the two families -/

theorem iTable_lookup_eq_regimm_iff : ∀ op : BitVec 6,
    tDefault.iTable.lookup op = some .regimm ↔ op = 1 := by decide

/-- The fourteen secondary values with an entry (R261 to R274). -/
theorem regimmTable_unmapped_iff : ∀ rt : BitVec 5, tDefault.regimmTable.lookup rt = none ↔
    rt ∉ ([0, 1, 2, 3, 8, 9, 10, 11, 12, 14, 16, 17, 18, 19] : List (BitVec 5)) := by decide

/-- The thirteen function codes with an entry behind the gate (R302 to R314). -/
def floatCodes : List (BitVec 6) := [0, 1, 2, 3, 4, 7, 12, 13, 14, 15, 32, 33, 36]

theorem floatTable_mapped_iff : ∀ funct : BitVec 6, tDefault.floatTable.lookup funct ≠ none ↔ funct ∈ floatCodes := by
  decide

/-- The tags that neither step (a) nor step (c) matches (R281, R286). -/
theorem rs_unmatched_iff (z : CopId) : ∀ rs : BitVec 5,
    rs ≠ tDefault.branchSentinel ∧ (tDefault.moveTable.get z).lookup rs = none ↔
      rs ∉ ([0, 1, 2, 4, 5, 6, 8] : List (BitVec 5)) := by
  cases z <;> decide

theorem floatMatch_ne_none_iff {w : Word32} : tDefault.floatMatch w ≠ none ↔
    functOf w ∈ floatCodes ∨ compareWindowOf w = 3 := by
  rw [Ne, Profile.floatMatch_eq_none_iff, not_and_or, ← Ne, floatTable_mapped_iff, not_not]
  rfl

/-- The coprocessor words that the cascade of `T_default` leaves (R280 to R288). -/
theorem copMatch_default_eq_none_iff {z : CopId} {w : Word32} : tDefault.copMatch z w = none ↔
    rsOf w ∉ ([0, 1, 2, 4, 5, 6, 8] : List (BitVec 5)) ∧
      ¬ (z = .cop1 ∧ 16 ≤ (rsOf w).toNat ∧ (functOf w ∈ floatCodes ∨ compareWindowOf w = 3)) := by
  rw [Profile.copMatch_eq_none_iff, ← and_assoc, rs_unmatched_iff, floatGate_eq_true_iff, floatMatch_ne_none_iff,
    and_assoc]

/-- The opcodes of both families are routed to I-decode (W7). -/
theorem route_of_iDecode_unsupported {w pc : Word32}
    (h : tDefault.iDecode w pc = .rejected .unsupportedSubform) : tDefault.route (opcodeOf w) = .I := by
  obtain ⟨hl, -⟩ | ⟨z, hl, -⟩ := Profile.iDecode_eq_unsupportedSubform_iff.mp h <;>
    exact iTable_route _ (mem_of_lookup_eq_some hl)

theorem copOpcode_eq_seventeen_iff {z : CopId} : copOpcode z = 17 ↔ z = .cop1 := by
  cases z <;> decide

/-- The three coprocessor opcodes, the second of them with an exception of its own. -/
theorem exists_copOpcode_except_iff {op : BitVec 6} {p q : Prop} :
    (∃ z, op = copOpcode z ∧ q ∧ ¬ (z = .cop1 ∧ p)) ↔
      op ∈ ([16, 17, 18] : List (BitVec 6)) ∧ q ∧ ¬ (op = 17 ∧ p) := by
  have hop : (∃ z, op = copOpcode z) ↔ op ∈ ([16, 17, 18] : List (BitVec 6)) := by
    simpa using exists_copOpcode_iff (op := op) (p := False) (q := True)
  rw [← hop, ← exists_and_right]
  refine exists_congr fun z => and_congr_right fun hz => ?_
  rw [hz, copOpcode_eq_seventeen_iff]

/-- Settles O16: J-decode and R-decode never answer the class, and I-decode answers it for a regimm value without an
entry and for a coprocessor word that the cascade leaves. -/
theorem unsupportedSubformExactly : Obligations.UnsupportedSubformExactly := by
  intro w
  rw [decode_eq_error_iff 0#32, Profile.decode_eq_rejected_iff, and_iff_right_of_imp route_of_iDecode_unsupported,
    Profile.iDecode_eq_unsupportedSubform_iff, iTable_lookup_eq_regimm_iff, regimmTable_unmapped_iff]
  simp only [Profile.rDecode_ne_unsupportedSubform, and_false, false_or, iTable_lookup_eq_cop_iff,
    copMatch_default_eq_none_iff, exists_copOpcode_except_iff, floatCodes]

/-! ### The regimm forms -/

/-- Settles O50: the eight branches are accepted with their target and without the mark, the six traps without a
target, and none of the fourteen is counted (R214, R260). -/
theorem regimmFormsComplete : Obligations.RegimmFormsComplete := fun _ _ _ =>
  ⟨.ofAcceptBranchUnmarked rfl, .ofAcceptBranchUnmarked rfl, .ofAcceptBranchUnmarked rfl,
    .ofAcceptBranchUnmarked rfl, .ofAcceptI rfl, .ofAcceptI rfl, .ofAcceptI rfl, .ofAcceptI rfl, .ofAcceptI rfl,
    .ofAcceptI rfl, .ofAcceptBranchUnmarked rfl, .ofAcceptBranchUnmarked rfl, .ofAcceptBranchUnmarked rfl,
    .ofAcceptBranchUnmarked rfl⟩

end Sys2Proof.Machine
end

section
/-! The proofs of O51 to O53. A coprocessor branch runs by accepting its own word with its target (`acceptBranch`), a
floating-point form and a coprocessor move by accepting theirs without one (`acceptI`); no form of the family moves a
counter (R289). -/

namespace Sys2Proof.Machine

/-- Settles O51: the three untested bits stand in the word that is accepted, and no coprocessor branch carries the
mark (R281). -/
theorem coprocessorBranchesComplete : Obligations.CoprocessorBranchesComplete := fun _ _ _ =>
  ⟨.ofAcceptBranchUnmarked rfl, .ofAcceptBranchUnmarked rfl, .ofAcceptBranchUnmarked rfl,
    .ofAcceptBranchUnmarked rfl, .ofAcceptBranchUnmarked rfl, .ofAcceptBranchUnmarked rfl,
    .ofAcceptBranchUnmarked rfl, .ofAcceptBranchUnmarked rfl, .ofAcceptBranchUnmarked rfl,
    .ofAcceptBranchUnmarked rfl, .ofAcceptBranchUnmarked rfl, .ofAcceptBranchUnmarked rfl⟩

/-- Settles O52: the format tag stands in the word that is accepted and decides nothing (R285). -/
theorem floatingPointFormsComplete : Obligations.FloatingPointFormsComplete := fun _ _ _ _ _ _ _ =>
  ⟨.ofAcceptI rfl, .ofAcceptI rfl, .ofAcceptI rfl, .ofAcceptI rfl, .ofAcceptI rfl, .ofAcceptI rfl, .ofAcceptI rfl,
    .ofAcceptI rfl, .ofAcceptI rfl, .ofAcceptI rfl, .ofAcceptI rfl, .ofAcceptI rfl, .ofAcceptI rfl, .ofAcceptI rfl⟩

/-- Settles O53: the six moves of each coprocessor id, the low eleven bits of the accepted word zero (R286). -/
theorem coprocessorMovesComplete : Obligations.CoprocessorMovesComplete := fun _ _ _ =>
  ⟨.ofAcceptI rfl, .ofAcceptI rfl, .ofAcceptI rfl, .ofAcceptI rfl, .ofAcceptI rfl, .ofAcceptI rfl, .ofAcceptI rfl,
    .ofAcceptI rfl, .ofAcceptI rfl, .ofAcceptI rfl, .ofAcceptI rfl, .ofAcceptI rfl, .ofAcceptI rfl, .ofAcceptI rfl,
    .ofAcceptI rfl, .ofAcceptI rfl, .ofAcceptI rfl, .ofAcceptI rfl⟩

end Sys2Proof.Machine
end

section
/-! The proofs of O19 and O20. Behind the gate of step (b) the answer to a word is read from its function code, its
`rt` and its compare window alone (`floatAnswer`, `nameOrClass_of_gate`): the format tag is no part of it, and the
accepted words are those that a table key or the window matches. The other rejections of O20 are words of the class
that O16 describes. -/

namespace Sys2Proof.Machine

/-! ### The answer up to the word's fields -/

/-- An answer without the fields of the word: the mnemonic, or the class of the rejection (R421). -/
def nameOrClass : DecodeResult → Except RejectClass Mnemonic
  | .accepted insn => .ok insn.mn
  | .rejected c => .error c

theorem Profile.accepts_eq_true_iff {T : Profile} {w : Word32} :
    T.accepts w = true ↔ ∃ mn, nameOrClass (T.decode w 0#32) = .ok mn := by
  unfold Profile.accepts
  cases T.decode w 0#32 <;> simp [DecodeResult.outward, nameOrClass]

theorem accepts_eq_false_of_error {w : Word32} {c : RejectClass} (h : decode w = .error c) :
    tDefault.accepts w = false := by
  rw [Profile.accepts, (decode_eq_error_iff 0#32).mp h]
  rfl

/-! ### The answer behind the gate -/

/-- The answer of `T_default` behind the gate: the function code first, then the compare window (R283, R284). -/
def floatAnswer (funct : BitVec 6) (rt : BitVec 5) (window : BitVec 4) : Except RejectClass Mnemonic :=
  match tDefault.floatTable.lookup funct with
  | some e => if funct ∈ oneOperandCodes ∧ rt ≠ 0 then .error .malformedEncoding else .ok e.mn
  | none => if window = tDefault.compareWindow then .ok tDefault.compare.mn else .error .unsupportedSubform

theorem decode_cop1 {w : Word32} (pc : Word32) (hop : opcodeOf w = 17) :
    tDefault.decode w pc = tDefault.copDecode .cop1 w pc := by
  have hr : tDefault.route (opcodeOf w) = .I := by rw [hop]; rfl
  have hl : tDefault.iTable.lookup (opcodeOf w) = some (.cop .cop1) := (iTable_lookup_eq_cop_iff .cop1 _).mpr hop
  simp only [Profile.decode, hr, Profile.iDecode, hl]

/-- The sentinel is not behind the gate (W9). -/
theorem rs_ne_sentinel_of_gate {w : Word32} (hg : floatGateOf w = true) : rsOf w ≠ tDefault.branchSentinel := by
  intro hs
  have hshut := gate_shut_of_sentinel (z := .cop1) hs
  rw [floatGate_eq, hg] at hshut
  cases hshut

/-- Behind the gate neither of the other two steps of the cascade matches (W9). -/
theorem copMatch_of_gate {w : Word32} (hg : floatGateOf w = true) :
    tDefault.copMatch .cop1 w = (tDefault.floatMatch w).map (CopStep.floating, ·) := by
  rw [Profile.copMatch, if_neg (rs_ne_sentinel_of_gate hg), floatGate_eq, if_pos hg, Profile.moveMatch,
    moveTable_lookup_of_gate hg]
  cases tDefault.floatMatch w <;> rfl

/-- The zero test of the entry that step (b) matches (R283). -/
theorem copMalformed_floating_iff {w : Word32} {e : CopEntry} (hm : tDefault.floatMatch w = some e) :
    copMalformed .floating e w = true ↔ functOf w ∈ oneOperandCodes ∧ rtOf w ≠ 0 := by
  rw [← floatMatch_broken_iff, hm]
  simp [copMalformed]

/-- Step (b) decides every word behind the gate, and reads no tag (R282 to R285). -/
theorem nameOrClass_of_gate {w : Word32} (pc : Word32) (hop : opcodeOf w = 17) (hg : floatGateOf w = true) :
    nameOrClass (tDefault.decode w pc) = floatAnswer (functOf w) (rtOf w) (compareWindowOf w) := by
  rw [decode_cop1 pc hop, Profile.copDecode, copMatch_of_gate hg]
  unfold floatAnswer
  cases hl : tDefault.floatTable.lookup (functOf w) with
  | some e =>
    have hm : tDefault.floatMatch w = some e := by rw [Profile.floatMatch, hl]
    simp only [hm, Option.map_some, copMalformed_floating_iff hm]
    split <;> rfl
  | none =>
    by_cases hc : compareWindowOf w = tDefault.compareWindow
    · have hm : tDefault.floatMatch w = some tDefault.compare := by
        simp only [Profile.floatMatch, hl, if_pos hc]
      rw [hm, if_pos hc]
      rfl
    · have hm : tDefault.floatMatch w = none := by simp only [Profile.floatMatch, hl, if_neg hc]
      rw [hm, if_neg hc]
      rfl

/-! ### The format tag -/

/-- The compare window lies below `rt`, in the fields `shamt` and `funct` (R85). -/
theorem compareWindowOf_rWord (op : BitVec 6) (rs rt rd shamt : BitVec 5) (funct : BitVec 6) :
    compareWindowOf (rWord op rs rt rd shamt funct) = (shamt ++ funct).extractLsb' 4 4 := by
  ext i hi
  simp only [compareWindowOf, rWord, BitVec.getElem_extractLsb', BitVec.getLsbD_append]
  by_cases h : 4 + i < 6
  · simp only [if_pos h]
  · have h11 : 4 + i - 6 < 5 := by omega
    simp only [if_neg h, if_pos h11]

theorem floatGateOf_rWord_formatTag (op : BitVec 6) (m : BitVec 4) (rt rd shamt : BitVec 5) (funct : BitVec 6) :
    floatGateOf (rWord op (formatTag m) rt rd shamt funct) = true := by
  have htop : ∀ m : BitVec 4, (formatTag m).getLsbD 4 = true := by decide
  rw [floatGateOf_eq, rsOf_rWord, htop]

/-- Settles O19: two words that differ in their tag agree in all that the answer behind the gate is read from. -/
theorem formatTagNeverRejects : Obligations.FormatTagNeverRejects := by
  intro m m' ft fs fd funct pc
  have answer (tag : BitVec 4) : nameOrClass (tDefault.decode (rWord 17 (formatTag tag) ft fs fd funct) pc) =
      floatAnswer funct ft ((fd ++ funct).extractLsb' 4 4) := by
    rw [nameOrClass_of_gate pc (opcodeOf_rWord ..) (floatGateOf_rWord_formatTag ..), functOf_rWord, rtOf_rWord,
      compareWindowOf_rWord]
  exact (answer m).trans (answer m').symm

/-! ### The words without a sub-form -/

/-- The function codes with two operands, which require no field to be zero, and those with one (R302 to R314). -/
theorem floatCodes_eq_append : floatCodes = [0, 1, 2, 3] ++ oneOperandCodes := rfl

theorem not_mem_oneOperandCodes : ∀ funct ∈ ([0, 1, 2, 3] : List (BitVec 6)), funct ∉ oneOperandCodes := by decide

/-- The words that step (b) accepts (R283, R284): a function code in the window is no key of the table. -/
theorem floatAnswer_eq_ok_iff {w : Word32} :
    (∃ mn, floatAnswer (functOf w) (rtOf w) (compareWindowOf w) = .ok mn) ↔
      functOf w ∈ ([0, 1, 2, 3] : List (BitVec 6)) ∨ (functOf w ∈ oneOperandCodes ∧ rtOf w = 0) ∨
        compareWindowOf w = tDefault.compareWindow := by
  have hmapped := floatTable_mapped_iff (functOf w)
  have hdisj := not_mem_oneOperandCodes (functOf w)
  rw [floatCodes_eq_append, List.mem_append] at hmapped
  unfold floatAnswer
  cases hl : tDefault.floatTable.lookup (functOf w) with
  | some e =>
    have hc : compareWindowOf w ≠ tDefault.compareWindow := fun hc => by
      rw [floatTable_lookup_of_window hc] at hl
      cases hl
    have hkey := hmapped.mp (by simp [hl])
    by_cases hz : functOf w ∈ oneOperandCodes ∧ rtOf w ≠ 0
    · simp only [if_pos hz]
      tauto
    · simp only [if_neg hz]
      tauto
  | none =>
    have hkey := hmapped.not.mp (by simp [hl])
    by_cases hc : compareWindowOf w = tDefault.compareWindow
    · simp [hc]
    · simp only [if_neg hc]
      tauto

/-- Settles O20: the first and the third clause are rejections of O16, and behind the gate step (b) decides. -/
theorem coprocessorRejections : Obligations.CoprocessorRejections := by
  intro w
  refine ⟨fun hop hrs => ?_, fun hop hg => ?_, fun hop hrs => ?_⟩
  · have hcop : opcodeOf w ∈ ([16, 17, 18] : List (BitVec 6)) := by obtain h | h := hop <;> simp [h]
    have hne : opcodeOf w ≠ 17 := by obtain h | h := hop <;> rw [h] <;> decide
    exact accepts_eq_false_of_error
      ((unsupportedSubformExactly w).mpr (.inr ⟨hcop, hrs, fun ⟨h17, _⟩ => hne h17⟩))
  · rw [Profile.accepts_eq_true_iff, nameOrClass_of_gate 0#32 hop hg]
    exact floatAnswer_eq_ok_iff
  · have hkeys : ∀ rs ∈ ([3, 7, 9, 10, 11, 12, 13, 14, 15] : List (BitVec 5)),
        rs ∉ ([0, 1, 2, 4, 5, 6, 8] : List (BitVec 5)) ∧ ¬ 16 ≤ rs.toNat := by decide
    obtain ⟨hnone, hlow⟩ := hkeys _ hrs
    exact accepts_eq_false_of_error
      ((unsupportedSubformExactly w).mpr (.inr ⟨hop, hnone, fun ⟨_, hgate, _⟩ => hlow hgate⟩))

end Sys2Proof.Machine
end

section
/-! The proofs of O10 and O54. J-decode has no rejecting branch, so an accepted result is read off the routing and the
name that the opcode selects (W1, R342); a jump runs by accepting its own word with its target (`acceptJ`), which alone
raises `jump_count` (R368). -/

namespace Sys2Proof.Machine

/-- Only the two J values are routed to J-decode (R351). -/
theorem Profile.opcode_of_route_J {T : Profile} {op : BitVec 6} (hr : T.route op = .J) :
    op = T.opJ ∨ op = T.opJal := by
  unfold Profile.route at hr
  split_ifs at hr with _ hop
  exact hop

/-- A word routed to J-decode is accepted, under the name its opcode selects (R341, R342). -/
theorem Profile.decode_of_route_J {T : Profile} {w : Word32} (pc : Word32) (hr : T.route (opcodeOf w) = .J) :
    T.decode w pc = .accepted (resultJump (if opcodeOf w = T.opJ then .j else .jal) w pc (targetOf w)) := by
  simp only [Profile.decode, hr]
  rfl

/-- Settles O10: the opcode is one of the two values, and W1 keeps them apart, so each selects its own name. -/
theorem jDecodeAlwaysAccepts : Obligations.JDecodeAlwaysAccepts := by
  intro T hT w pc hr
  obtain ⟨-, -, j_ne_jal⟩ := hT.routes
  rw [Profile.decode_of_route_J pc hr]
  obtain hj | hjal := Profile.opcode_of_route_J hr
  · exact .inl ⟨hj, by rw [if_pos hj]⟩
  · have hne : opcodeOf w ≠ T.opJ := hjal ▸ j_ne_jal.symm
    exact .inr ⟨hjal, by rw [if_neg hne]⟩

/-- An instruction that accepts a J-form word completes with its target, and is counted (R341, R368). -/
theorem RunsAs.ofAcceptJ {i : Instr} {s : State} {mn : Mnemonic} {w : Word32} {target : BitVec 26}
    (h : exec i s = acceptJ mn w target s) : RunsAs i s (resultJump mn w s.programCounter target) 1 0 :=
  ⟨_, h, acceptJ_next rfl⟩

/-- Settles O54: the two jumps differ in their name and opcode alone. -/
theorem jumpsComplete : Obligations.JumpsComplete := fun _ _ => ⟨.ofAcceptJ rfl, .ofAcceptJ rfl⟩

end Sys2Proof.Machine
end

section
/-! The proof of O6, which is the agreement of the two decoders in the obligation's words. -/

namespace Sys2Proof.Machine

/-- Settles O6: the two decoders agree, opcode by opcode (`decode_agrees`). -/
theorem decoderIsDefaultProfile : Obligations.DecoderIsDefaultProfile := by
  intro w pc
  have agree := decode_agrees w pc
  cases hd : decode w with
  | ok i | error c =>
    rw [hd] at agree
    exact agree

end Sys2Proof.Machine
end

section
/-! The proofs of O7 and O11. What a decoder answers to one word at all addresses is said once for every profile
(`Profile.decode_answers`): a class, or a record that is fixed up to the value of a target. Its form is the route of
the opcode, and the routes of the 64 opcodes are counted by the three values that do not go to I-decode. -/

namespace Sys2Proof

/-- A record without the value of its target (R354). -/
def Insn.pcFree (insn : Insn) : Insn := { insn with tgt := insn.tgt.map fun _ => 0#32 }

@[simp] theorem DecodeResult.pcFree_accepted (insn : Insn) :
    (DecodeResult.accepted insn).pcFree = .accepted insn.pcFree := rfl

@[simp] theorem DecodeResult.pcFree_rejected (c : RejectClass) :
    (DecodeResult.rejected c).pcFree = .rejected c := rfl

end Sys2Proof

namespace Sys2Proof.Machine

/-! ### One word at all addresses -/

/-- What a decoder answers to a word, by the address it stands at: the same class everywhere, the same record, or
the same record but for the target, which is counted from the address. -/
inductive AnswersByPc (w : Word32) (form : Form) (answer : Word32 → DecodeResult) : Prop
  | rejected (c : RejectClass) : (∀ pc, answer pc = .rejected c) → AnswersByPc w form answer
  | plain (mn : Mnemonic) (via : Option Mnemonic) (ubranch : Bool) :
      (∀ pc, answer pc = .accepted ⟨mn, form, w, none, via, ubranch⟩) → AnswersByPc w form answer
  | targeted (mn : Mnemonic) (target : Word32 → Word32) (ubranch : Bool) :
      (∀ pc, answer pc = .accepted ⟨mn, form, w, some (target pc), none, ubranch⟩) → AnswersByPc w form answer

theorem AnswersByPc.congr {w : Word32} {form : Form} {answer answer' : Word32 → DecodeResult}
    (h : AnswersByPc w form answer') (heq : ∀ pc, answer pc = answer' pc) : AnswersByPc w form answer :=
  funext heq ▸ h

/-- The zero test and the class of an I-form entry look at the word alone (R211, R260, R287). -/
theorem AnswersByPc.ofIForm {broken : Bool} {c : Prop} [Decidable c] {w : Word32} {mn : Mnemonic} {u : Bool} :
    AnswersByPc w .I fun pc =>
      if broken then .rejected .malformedEncoding
      else if c then acceptedBranch mn w pc u else acceptedPlain mn w u := by
  cases broken with
  | true => exact .rejected _ fun _ => rfl
  | false =>
    by_cases hc : c
    · exact .targeted mn (branchTarget · (immOf w)) u fun _ => if_pos hc
    · exact .plain mn none u fun _ => if_neg hc

theorem Profile.rDecode_answers (T : Profile) (w : Word32) : AnswersByPc w .R fun _ => T.rDecode w := by
  cases hl : T.rTable.lookup (functOf w) with
  | none => exact .rejected _ fun _ => Profile.rDecode_eq_unknownSelector_iff.mpr hl
  | some e =>
    obtain ⟨-, -, hd⟩ | ⟨-, hd⟩ := Profile.rDecode_cases hl
    · exact .rejected _ fun _ => hd
    · rw [hd, REntry.result]
      split_ifs <;> exact .plain _ _ _ fun _ => rfl

theorem Profile.regimmDecode_answers (T : Profile) (w : Word32) : AnswersByPc w .I (T.regimmDecode w) := by
  cases hl : T.regimmTable.lookup (rtOf w) with
  | none => exact .rejected .unsupportedSubform fun pc => by simp only [Profile.regimmDecode, hl]
  | some e => exact AnswersByPc.ofIForm.congr fun pc => by simp only [Profile.regimmDecode, hl]; rfl

theorem Profile.copDecode_answers (T : Profile) (z : CopId) (w : Word32) : AnswersByPc w .I (T.copDecode z w) := by
  cases hm : T.copMatch z w with
  | none => exact .rejected .unsupportedSubform fun pc => by simp only [Profile.copDecode, hm]
  | some m => exact AnswersByPc.ofIForm.congr fun pc => Profile.copDecode_of_copMatch pc hm

theorem Profile.iDecode_answers (T : Profile) (w : Word32) : AnswersByPc w .I (T.iDecode w) := by
  cases hl : T.iTable.lookup (opcodeOf w) with
  | none => exact .rejected _ fun pc => Profile.iDecode_eq_unknownSelector_iff.mpr hl
  | some e =>
    cases e with
    | regimm => exact (T.regimmDecode_answers w).congr fun pc => by simp only [Profile.iDecode, hl]
    | cop z => exact (T.copDecode_answers z w).congr fun pc => by simp only [Profile.iDecode, hl]
    | direct mn cls zero likely => exact AnswersByPc.ofIForm.congr fun pc => by simp only [Profile.iDecode, hl]; rfl

/-- The answer to a word at all addresses, in every profile; the form of its record is the route of its opcode (R350,
R351, R354). -/
theorem Profile.decode_answers (T : Profile) (w : Word32) :
    AnswersByPc w (T.route (opcodeOf w)) (T.decode w) := by
  cases hr : T.route (opcodeOf w) with
  | R => exact (T.rDecode_answers w).congr fun pc => by simp only [Profile.decode, hr]
  | J => exact .targeted _ (jumpTarget · (targetOf w)) false fun pc => Profile.decode_of_route_J pc hr
  | I => exact (T.iDecode_answers w).congr fun pc => by simp only [Profile.decode, hr]

/-- Settles O11: of the three ways to answer, only the third differs between two addresses, in the target's value. -/
theorem onlyTargetDependsOnPc : Obligations.OnlyTargetDependsOnPc := by
  intro T w pc pc'
  cases T.decode_answers w with
  | rejected c h | plain mn via u h => rw [h pc, h pc']
  | targeted mn target u h =>
    rw [h pc, h pc']
    rfl

/-- The form of an accepted word is the route of its opcode (R351). -/
theorem Profile.form_of_accepted {T : Profile} {w pc : Word32} {insn : Insn} (hd : T.decode w pc = .accepted insn) :
    insn.form = T.route (opcodeOf w) := by
  cases T.decode_answers w with
  | rejected c h =>
    rw [h pc] at hd
    cases hd
  | plain mn via u h | targeted mn target u h =>
    rw [h pc] at hd
    cases hd
    rfl

/-! ### The routes of the 64 opcodes -/

theorem Profile.route_eq_R_iff {T : Profile} {op : BitVec 6} : T.route op = .R ↔ op = T.opR := by
  unfold Profile.route
  split_ifs <;> simp_all

/-- W1 keeps the value of R-decode apart from the two of J-decode (R351). -/
theorem Profile.WellFormed.route_eq_J_iff {T : Profile} (hT : T.WellFormed) {op : BitVec 6} :
    T.route op = .J ↔ op = T.opJ ∨ op = T.opJal := by
  refine ⟨Profile.opcode_of_route_J, fun hop => ?_⟩
  obtain ⟨r_ne_j, r_ne_jal, -⟩ := hT.routes
  have hR : op ≠ T.opR := by
    rintro rfl
    exact hop.elim r_ne_j r_ne_jal
  rw [Profile.route, if_neg hR, if_pos hop]

/-- Every opcode but three is routed to I-decode (R351). -/
theorem Profile.WellFormed.route_ne_I_iff {T : Profile} (hT : T.WellFormed) {op : BitVec 6} :
    T.route op ≠ .I ↔ op = T.opR ∨ op = T.opJ ∨ op = T.opJal := by
  rw [← Profile.route_eq_R_iff, ← hT.route_eq_J_iff]
  cases T.route op <;> decide

/-- Counting over the 64 values of the opcode, a test that just the values of a list pass is passed as often as the
list is long. -/
theorem countP_opcodes {p : BitVec 6 → Bool} {ops : List (BitVec 6)} (hn : ops.Nodup)
    (h : ∀ op, p op = true ↔ op ∈ ops) : (List.range 64).countP (fun n => p (BitVec.ofNat 6 n)) = ops.length := by
  have hall (op : BitVec 6) : op ∈ (List.range 64).map (BitVec.ofNat 6) :=
    List.mem_map.mpr ⟨op.toNat, List.mem_range.mpr op.isLt, by simp⟩
  have hperm : (((List.range 64).map (BitVec.ofNat 6)).filter p).Perm ops :=
    (List.perm_ext_iff_of_nodup ((bitVec_indices_nodup 6).filter p) hn).mpr fun op => by
      rw [List.mem_filter, h]
      exact and_iff_right (hall op)
  rw [← hperm.length_eq, ← List.countP_eq_length_filter, List.countP_map]
  rfl

/-- Settles O7: W1 makes the three routed values different, so the opcodes that do not go to I-decode are three. -/
theorem routingSplitsOpcodes : Obligations.RoutingSplitsOpcodes := by
  intro T hT
  obtain ⟨r_ne_j, r_ne_jal, j_ne_jal⟩ := hT.routes
  have countR : (List.range 64).countP (fun n => T.route (BitVec.ofNat 6 n) == .R) = 1 :=
    countP_opcodes (p := (T.route · == .R)) (ops := [T.opR]) (by simp) fun op => by
      simp [Profile.route_eq_R_iff]
  have countJ : (List.range 64).countP (fun n => T.route (BitVec.ofNat 6 n) == .J) = 2 :=
    countP_opcodes (p := (T.route · == .J)) (ops := [T.opJ, T.opJal]) (by simp [j_ne_jal]) fun op => by
      simp [hT.route_eq_J_iff]
  have countOther : (List.range 64).countP (fun n => !(T.route (BitVec.ofNat 6 n) == .I)) = 3 :=
    countP_opcodes (p := fun op => !(T.route op == .I)) (ops := [T.opR, T.opJ, T.opJal])
      (by simp [r_ne_j, r_ne_jal, j_ne_jal]) fun op => by simp [← hT.route_ne_I_iff]
  have countI : (List.range 64).countP (fun n => T.route (BitVec.ofNat 6 n) == .I) = 61 := by
    have total := List.length_eq_countP_add_countP (fun n => T.route (BitVec.ofNat 6 n) == .I) (l := List.range 64)
    simp only [List.length_range, Bool.not_eq_true, Bool.decide_eq_false, countOther] at total
    omega
  exact ⟨countR, countJ, countI, fun _ _ _ => Profile.form_of_accepted,
    fun _ pc hr => ⟨_, Profile.decode_of_route_J pc hr⟩⟩

end Sys2Proof.Machine
end

section
/-! The proof of O37. A scan is followed on what is left of a state when the addresses are forgotten (`State.pcFree`):
a step reads its word from the part that is kept, and by O11 the decoder's answer depends on the part that is forgotten
in the target's value alone, which no field but the records takes up. -/

namespace Sys2Proof.Machine

/-! ### States without addresses -/

/-- A record without its address and the value of its target. -/
def Record.pcFree (r : Record) : Record := { r with programCounter := 0#32, insn := r.insn.pcFree }

/-- A state without the program counter and the entry address, and without what its records hold of them (R354). -/
def State.pcFree (s : State) : State :=
  { s with programCounter := 0#32, entryAddress := 0#32, records := s.records.map Record.pcFree }

/-- Halting looks at no address (R366). -/
theorem State.haltScan_pcFree (s : State) : s.haltScan.pcFree = s.pcFree.haltScan := rfl

/-- Accepting a word moves nothing by an address but the program counter and the new record (R365). -/
theorem State.accepted_pcFree (s : State) (insn : Insn) :
    (s.accepted insn).pcFree = { s.pcFree.accepted insn.pcFree with programCounter := 0#32 } := by
  simp only [State.pcFree, State.accepted, List.map_append]
  rfl

/-- What can be read off the part of a state that is kept is the same in states that differ in addresses alone. -/
theorem State.eq_of_pcFree_eq {α : Type} (f : State → α) (keeps : ∀ s : State, f s.pcFree = f s) {s t : State}
    (h : s.pcFree = t.pcFree) : f s = f t := by
  rw [← keeps s, h, keeps]

/-! ### The scan -/

/-- The step over states that differ in addresses alone (R363): they read the same word, and accept it or reject it
alike. -/
theorem Profile.scanStep_pcFree (T : Profile) {s t : State} (h : s.pcFree = t.pcFree) :
    (T.scanStep s).pcFree = (T.scanStep t).pcFree := by
  have hfsm := State.eq_of_pcFree_eq State.fsm (fun _ => rfl) h
  have hread := State.eq_of_pcFree_eq (fun u => imgRead32 u u.offset.toNat) (fun _ => rfl) h
  have halt : s.haltScan.pcFree = t.haltScan.pcFree := by
    rw [State.haltScan_pcFree, h, State.haltScan_pcFree]
  unfold Profile.scanStep
  rw [hfsm, hread]
  cases t.fsm with
  | halted => exact h
  | scanning =>
    cases imgRead32 t t.offset.toNat with
    | none => exact halt
    | some w =>
      have hd := onlyTargetDependsOnPc T w s.programCounter t.programCounter
      cases hs : T.decode w s.programCounter <;> cases ht : T.decode w t.programCounter <;> rw [hs, ht] at hd
      case accepted.accepted insn insn' =>
        have hinsn : insn.pcFree = insn'.pcFree := by simpa using hd
        simp only [hs, ht, State.accepted_pcFree, h, hinsn]
      case rejected.rejected => simp only [hs, ht, halt]
      all_goals simp at hd

theorem Profile.scanSteps_pcFree (T : Profile) (n : Nat) :
    ∀ {s t : State}, s.pcFree = t.pcFree → (T.scanSteps n s).pcFree = (T.scanSteps n t).pcFree := by
  induction n with
  | zero => exact id
  | succ n ih => exact fun h => ih (T.scanStep_pcFree h)

/-- The whole scan: its length is read off the image size and the offset (R373, R375). -/
theorem Profile.scan_pcFree (T : Profile) {s t : State} (h : s.pcFree = t.pcFree) :
    (T.scan s).pcFree = (T.scan t).pcFree := by
  have hbound := State.eq_of_pcFree_eq stepBound (fun _ => rfl) h
  unfold Profile.scan
  rw [hbound]
  exact T.scanSteps_pcFree _ h

/-- The words of the records are no addresses. -/
theorem State.words_pcFree (s : State) : s.pcFree.records.map Record.word = s.records.map Record.word := by
  simp only [State.pcFree, List.map_map]
  rfl

/-- Settles O37: the two scans start in states that differ in addresses alone, so they end in such states, and every
field of the statement is one that `State.pcFree` keeps. -/
theorem boundaryIndependentOfEntry : Obligations.BoundaryIndependentOfEntry := by
  intro T s pc entry a b
  have h : b.pcFree = a.pcFree := T.scan_pcFree rfl
  have same {α : Type} (f : State → α) (keeps : ∀ s : State, f s.pcFree = f s) : f b = f a :=
    State.eq_of_pcFree_eq f keeps h
  exact ⟨same State.fsm fun _ => rfl, same State.boundaryValid fun _ => rfl, same State.boundaryOffset fun _ => rfl,
    same State.binaryStart fun _ => rfl, same State.offset fun _ => rfl, same State.jumpCount fun _ => rfl,
    same State.branchCount fun _ => rfl, same (·.records.map Record.word) State.words_pcFree⟩

end Sys2Proof.Machine
end

section
/-! The proofs of O21 to O28. What the scanner over a profile does at a state is said case by case (`Reads`,
`AtEndOfData`, halted); the machine's step is that scanner over `T_default` (O22), so each statement about a step is
read off the case it speaks of. -/

namespace Sys2Proof.Machine

/-! ### The scanner over a profile, case by case -/

/-- Halted keeps every field (R370). -/
theorem Profile.scanStep_of_halted {T : Profile} {s : State} (h : s.fsm = .halted) : T.scanStep s = s := by
  simp only [Profile.scanStep, h]

/-- A scanning step over a rejected word halts, whatever the class (R366). -/
theorem Profile.scanStep_of_rejected {T : Profile} {s : State} {w : Word32} {c : RejectClass} (hw : Reads s w)
    (hd : T.decode w s.programCounter = .rejected c) : T.scanStep s = s.haltScan := by
  obtain ⟨hf, hread⟩ := hw
  simp only [Profile.scanStep, hf, hread, hd]

/-- At the end of the data no word can be read (R56). -/
theorem AtEndOfData.imgRead32_eq_none {s : State} (h : AtEndOfData s) : imgRead32 s s.offset.toNat = none :=
  Machine.imgRead32_eq_none.mpr (endOfData_eq_true.mpr h.2)

/-- At the end of the data the scanner halts as on a rejected word (R367). -/
theorem Profile.scanStep_of_atEndOfData {T : Profile} {s : State} (h : AtEndOfData s) : T.scanStep s = s.haltScan := by
  simp only [Profile.scanStep, h.1, h.imgRead32_eq_none]

/-! ### The machine's step is the scanner over `T_default` -/

/-- Settles O22: of the ways a step can go, each is the spec's transition, because the two decoders agree. -/
theorem stepIsSpecStep : Obligations.StepIsSpecStep := by
  intro s
  cases hf : s.fsm with
  | halted => rw [step_of_halted hf, Profile.scanStep_of_halted hf]
  | scanning =>
    obtain ⟨he, hs⟩ | ⟨w, hw, ⟨c, hd, hs⟩ | ⟨i, hd, hs⟩⟩ := step_scanning_cases s hf
    · rw [hs, Profile.scanStep_of_atEndOfData ⟨hf, endOfData_eq_true.mp he⟩]
    · rw [hs, Profile.scanStep_of_rejected ⟨hf, hw⟩ (rejected_of_decode hd _)]
    · obtain ⟨insn, ha, hx⟩ := exec_of_decode hd s
      rw [hs, hx, Profile.scanStep_of_accepted ⟨hf, hw⟩ ha]

/-- Settles O21: the step reads the word and runs what it decodes to. -/
theorem stepRunsDecodedInstruction : Obligations.StepRunsDecodedInstruction := by
  intro s w i ⟨hf, hread⟩ hd
  rw [step_of_read hf hread, stepWord, hd]

/-- The step over an accepted word, with the counters as the form and the mark say (R365, R368, R369). -/
theorem acceptedStep_form (s : State) (insn : Insn) :
    AcceptedStep s (s.accepted insn) insn (if insn.form = .J then 1 else 0) (if insn.ubranch = true then 1 else 0) := by
  have hform : (if insn.form = .J then (1 : Word32) else 0) = if countsJump insn then 1 else 0 := by
    unfold countsJump
    cases insn.form <;> rfl
  rw [hform]
  exact acceptedStep_accepted s insn

/-- The offset of a word that was read lies below the image size, so its advance does not wrap (R23, R56). -/
theorem Reads.offset_add_four {s : State} {w : Word32} (h : Reads s w) :
    (s.offset + 4#32).toNat = s.offset.toNat + 4 := by
  have hin := (imgRead32_eq_some.mp h.2).1
  have hsize := s.imageSize.isLt
  bv_omega

/-- Settles O23: an accepted word is the third of the three things a step can do, and the only one that moves the
program counter or the offset. -/
theorem acceptedWordAdvances : Obligations.AcceptedWordAdvances := by
  refine ⟨fun s w insn hw hd => ?_, fun s t h => ?_⟩
  · refine ⟨s.accepted insn, ?_, acceptedStep_form s insn, hw.1, hw.offset_add_four⟩
    rw [stepIsSpecStep s, Profile.scanStep_of_accepted hw hd]
  · obtain ⟨-, rfl⟩ | ⟨-, rfl⟩ | ⟨w, insn, hw, hd, rfl⟩ := step_next_cases h
    · exact .inl ⟨rfl, rfl⟩
    · exact .inl ⟨rfl, rfl⟩
    · exact .inr ⟨w, insn, hw, hd, rfl, hw.offset_add_four⟩

/-- Settles O24: the class is not looked at. -/
theorem rejectedWordHalts : Obligations.RejectedWordHalts := by
  intro s w c hw hd
  refine ⟨s.haltScan, ?_, haltedStep_haltScan s⟩
  rw [stepIsSpecStep s, Profile.scanStep_of_rejected hw hd]

/-- Settles O25: the transition is that of O24. -/
theorem endOfDataHalts : Obligations.EndOfDataHalts := by
  intro s h
  refine ⟨s.haltScan, ?_, haltedStep_haltScan s⟩
  rw [stepIsSpecStep s, Profile.scanStep_of_atEndOfData h]

/-! ### Runs, and the reset -/

/-- The machine runs as the scanner over `T_default` does, and never stops with a fault or a refusal. -/
theorem run_eq_scanSteps (n : Nat) :
    ∀ s : State, Host.Core.run Sys2Proof.core n s = .next (tDefault.scanSteps n s) := by
  induction n with
  | zero => exact run_zero
  | succ n ih => exact fun s => (run_succ (stepIsSpecStep s)).trans (ih _)

/-- Halted keeps every field for any number of steps (R370). -/
theorem Profile.scanSteps_of_halted {T : Profile} {s : State} (h : s.fsm = .halted) (n : Nat) :
    T.scanSteps n s = s := by
  induction n with
  | zero => rfl
  | succ n ih => rw [Profile.scanSteps, Profile.scanStep_of_halted h, ih]

/-- Settles O26: the machine repeats a halted state, and only the reset of the clock edge leaves it. -/
theorem haltedIsTerminal : Obligations.HaltedIsTerminal := by
  intro s h
  refine ⟨fun n => ?_, s.startScan, rfl, rfl, rfl⟩
  rw [run_eq_scanSteps, Profile.scanSteps_of_halted h]

/-- Settles O27: `State.startScan` writes the initial values and none of the inputs, and the state after power-on is
such a start. -/
theorem resetStartsScan : Obligations.ResetStartsScan :=
  ⟨fun s => ⟨s.startScan, rfl, rfl, rfl, rfl, rfl, rfl, rfl, rfl, .of_fields rfl rfl rfl rfl rfl⟩,
    rfl, rfl, rfl, rfl, rfl, rfl, rfl⟩

/-! ### The ports of a step -/

/-- The word at the read offset is decoded in this cycle (R363). -/
theorem decodedNow_of_reads {s : State} {w : Word32} (h : Reads s w) :
    s.decodedNow = some (tDefault.decode w s.programCounter) := by
  simp only [State.decodedNow, h.1, h.2, Option.map_some]

/-- At the end of the data nothing is decoded (R367). -/
theorem decodedNow_of_atEndOfData {s : State} (h : AtEndOfData s) : s.decodedNow = none := by
  simp only [State.decodedNow, h.1, h.imgRead32_eq_none, Option.map_none]

/-- The debug code 0 is that of the accepted results (R422). -/
theorem debugCode_eq_zero_iff (d : DecodeResult) : d.debugCode = 0#2 ↔ d.outward.isSome = true := by
  cases d with
  | accepted insn => exact iff_of_true rfl rfl
  | rejected c => cases c <;> decide

/-- The debug class is 0 exactly in a cycle that shows a record (D18). -/
theorem ports_debugClass_eq_zero_iff (s : State) :
    s.ports.debugClass = some 0#2 ↔ s.ports.record.isSome = true := by
  simp only [State.ports, State.recordNow]
  cases s.decodedNow with
  | none => simp
  | some d => simp [debugCode_eq_zero_iff]

/-- The ports show the record that the step appends, and none when it appends none (R371). -/
theorem records_of_step {s t : State} (h : step s = .next t) : t.records = s.records ++ s.ports.record.toList := by
  obtain ⟨hf, rfl⟩ | ⟨he | ⟨w, c, hw, hd⟩, rfl⟩ | ⟨w, insn, hw, hd, rfl⟩ := step_next_cases h
  · simp [State.ports, State.recordNow, decodedNow_of_halted hf]
  · simp [State.ports, State.recordNow, decodedNow_of_atEndOfData he]
  · simp [State.ports, State.recordNow, decodedNow_of_reads hw, hd, DecodeResult.outward]
  · simp [State.ports, State.recordNow, decodedNow_of_reads hw, hd, DecodeResult.outward]

/-- In a scan the boundary is valid exactly once halted (R26). -/
theorem ScanInvariant.boundaryValid_eq {s : State} (inv : ScanInvariant s) :
    s.boundaryValid = (s.fsm == .halted) := by
  cases hf : s.fsm with
  | halted => exact (inv.halted_valid hf).1
  | scanning => exact inv.scanning_invalid hf

/-- Settles O28: the record port and the debug port are read off the one result of the cycle, and the step appends a
record exactly where that result is an acceptance. -/
theorem portsShowTheStep : Obligations.PortsShowTheStep := fun s _ h =>
  ⟨records_of_step h, beq_iff_eq, ScanInvariant.boundaryValid_eq, ports_debugClass_eq_zero_iff s⟩

end Sys2Proof.Machine
end

section
/-! The proof of O56. Every instruction accepts one result, and what that result counts as is read off the constructor
(`exec_counts`); acceptance moves the counters by just that. -/

namespace Sys2Proof.Machine

/-- The instructions of J-form (R368). -/
def countsJumpInstr : Instr → Bool
  | .j _ | .jal _ => true
  | _ => false

/-- The instructions that are the unconditional-branch pattern (R214, R369). -/
def countsBranchInstr : Instr → Bool
  | .beq rs rt _ => isUnconditional rs rt
  | _ => false

theorem countsJumpInstr_iff {i : Instr} : countsJumpInstr i = true ↔ ∃ target, i = .j target ∨ i = .jal target := by
  constructor
  · intro h
    unfold countsJumpInstr at h
    split at h
    · exact ⟨_, .inl rfl⟩
    · exact ⟨_, .inr rfl⟩
    · cases h
  · rintro ⟨target, rfl | rfl⟩ <;> rfl

theorem countsBranchInstr_iff {i : Instr} : countsBranchInstr i = true ↔ ∃ imm, i = .beq 0 0 imm := by
  constructor
  · intro h
    unfold countsBranchInstr at h
    split at h
    · next rs rt imm =>
      obtain ⟨rfl, rfl⟩ := isUnconditional_eq_true_iff.mp h
      exact ⟨imm, rfl⟩
    · cases h
  · rintro ⟨imm, rfl⟩
    rfl

/-- Each instruction accepts a result that counts as the instruction does: constructor by constructor, the form and the
mark that its meaning gives the result (R368, R369). -/
theorem exec_counts (i : Instr) (s : State) :
    ∃ insn, exec i s = .next (s.accepted insn) ∧ countsJump insn = countsJumpInstr i ∧
      countsBranch insn = countsBranchInstr i := by
  cases i <;> exact ⟨_, rfl, rfl, rfl⟩

/-- Settles O56: a counter is bumped by its mark, and the marks are those of the constructor. -/
theorem countersMoveExactly : Obligations.CountersMoveExactly := by
  intro i s t h
  obtain ⟨insn, hx, hjump, hbranch⟩ := exec_counts i s
  rw [hx] at h
  cases h
  rw [← countsJumpInstr_iff, ← countsBranchInstr_iff, State.accepted_jumpCount, State.accepted_branchCount, hjump,
    hbranch]
  exact ⟨fun hj => by rw [hj]; rfl, fun hj => by rw [Bool.eq_false_of_not_eq_true hj]; rfl,
    fun hb => by rw [hb]; rfl, fun hb => by rw [Bool.eq_false_of_not_eq_true hb]; rfl⟩

end Sys2Proof.Machine
end

section
/-! The proofs of O35, O36, O38 and O39. A scan is followed by recursion over the words it accepts: at the end of the
data or at a rejected word it halts (`ScanEnds.halt`), and an accepted word leaves the same scan one word on
(`ScanEnds.accept`). The words read from an image are those of the list it was laid out from (`BytesAhead`), so the
end-to-end statement is a case of the closed form. -/

namespace Sys2Proof.Machine

/-! ### The words ahead of a scanning state -/

/-- A scanning state reads a word exactly when one is left (R56). -/
theorem atEndOfData_or_reads {s : State} (hf : s.fsm = .scanning) : AtEndOfData s ∨ ∃ w, Reads s w := by
  cases hr : imgRead32 s s.offset.toNat with
  | none => exact .inl ⟨hf, endOfData_eq_true.mp (imgRead32_eq_none.mp hr)⟩
  | some w => exact .inr ⟨w, hf, hr⟩

theorem wordsLeft_of_atEndOfData {s : State} (h : AtEndOfData s) : wordsLeft s = 0 := by
  have hend := h.2
  unfold wordsLeft
  omega

/-- Reading a word leaves one fewer, without wrap of the offset. -/
theorem wordsLeft_of_reads {s : State} {w : Word32} (h : Reads s w) (insn : Insn) :
    wordsLeft s = wordsLeft (s.accepted insn) + 1 := by
  have hin := (imgRead32_eq_some.mp h.2).1
  have hoff := h.offset_add_four
  unfold wordsLeft
  rw [State.accepted_imageSize, State.accepted_offset, hoff]
  omega

/-- The words after the first are those of the state one word on. -/
theorem wordAt_succ {s : State} {w : Word32} (h : Reads s w) (insn : Insn) (k : Nat) :
    wordAt s (k + 1) = wordAt (s.accepted insn) k := by
  have hoff := h.offset_add_four
  have hoffset : (s.accepted insn).offset.toNat + 4 * k = s.offset.toNat + 4 * (k + 1) := by
    rw [State.accepted_offset, hoff]
    omega
  have hread := imgRead32_congr (s := s) (t := s.accepted insn) rfl rfl rfl
  rw [wordAt, wordAt, hoffset, hread]

theorem wordAt_zero {s : State} {w : Word32} (h : Reads s w) : wordAt s 0 = w := by
  simp only [wordAt, Nat.mul_zero, Nat.add_zero, h.2, Option.getD_some]

theorem wordsAhead_of_atEndOfData {s : State} (h : AtEndOfData s) : wordsAhead s = [] := by
  rw [wordsAhead, wordsLeft_of_atEndOfData h]
  rfl

theorem wordsAhead_of_reads {s : State} {w : Word32} (h : Reads s w) (insn : Insn) :
    wordsAhead s = w :: wordsAhead (s.accepted insn) := by
  unfold wordsAhead
  rw [wordsLeft_of_reads h insn, List.range_succ_eq_map, List.map_cons, wordAt_zero h, List.map_map]
  congr 2
  exact funext fun k => wordAt_succ h insn k

/-! ### The words a scan accepts -/

/-- Whether a word is accepted does not depend on its address (R354). -/
theorem Profile.accepts_iff_at {T : Profile} {w : Word32} (pc : Word32) :
    T.accepts w = true ↔ ∃ insn, T.decode w pc = .accepted insn := by
  unfold Profile.accepts
  cases T.decode_answers w with
  | rejected c h => simp [h, DecodeResult.outward]
  | plain mn via u h | targeted mn target u h => simp [h, DecodeResult.outward]

theorem Profile.accepts_eq_false_iff_at {T : Profile} {w : Word32} (pc : Word32) :
    T.accepts w = false ↔ ∃ c, T.decode w pc = .rejected c := by
  rw [← Bool.not_eq_true, T.accepts_iff_at pc]
  cases T.decode w pc <;> simp

theorem Profile.acceptedAhead_of_atEndOfData {T : Profile} {s : State} (h : AtEndOfData s) :
    T.acceptedAhead s = [] := by
  rw [Profile.acceptedAhead, wordsAhead_of_atEndOfData h, List.takeWhile_nil]

/-- A rejected word is the first of the words ahead, whatever record an acceptance would leave. -/
theorem Profile.acceptedAhead_of_rejected {T : Profile} {s : State} {w : Word32} {c : RejectClass} (h : Reads s w)
    (hd : T.decode w s.programCounter = .rejected c) : T.acceptedAhead s = [] := by
  have hw : T.accepts w = false := (T.accepts_eq_false_iff_at _).mpr ⟨c, hd⟩
  rw [Profile.acceptedAhead, wordsAhead_of_reads h (resultR .nop w), List.takeWhile_cons_of_neg (by simp [hw])]

theorem Profile.acceptedAhead_of_accepted {T : Profile} {s : State} {w : Word32} {insn : Insn} (h : Reads s w)
    (hd : T.decode w s.programCounter = .accepted insn) :
    T.acceptedAhead s = w :: T.acceptedAhead (s.accepted insn) := by
  have hw : T.accepts w = true := (T.accepts_iff_at _).mpr ⟨insn, hd⟩
  rw [Profile.acceptedAhead, wordsAhead_of_reads h insn, List.takeWhile_cons_of_pos hw]
  rfl

/-- A scan accepts no more words than are left (R373). -/
theorem Profile.length_acceptedAhead_le (T : Profile) (s : State) : (T.acceptedAhead s).length ≤ wordsLeft s := by
  have hlen : (wordsAhead s).length = wordsLeft s := by rw [wordsAhead, List.length_map, List.length_range]
  exact (List.takeWhile_prefix _).length_le.trans_eq hlen

/-! ### Where a scan ends -/

/-- The end of a scan from `s` that accepts the words `ws` (R375). -/
structure ScanEnds (T : Profile) (s : State) (ws : List Word32) (t : State) : Prop where
  fsm : t.fsm = .halted
  boundaryValid : t.boundaryValid = true
  binaryStart_toNat : t.binaryStart.toNat = s.offset.toNat + 4 * ws.length
  binaryStart_eq : t.binaryStart = t.offset
  boundaryOffset : 4 ≤ s.offset.toNat + 4 * ws.length → t.boundaryOffset.toNat + 4 = t.binaryStart.toNat
  programCounter : t.programCounter = s.programCounter + BitVec.ofNat 32 (4 * ws.length)
  words : t.records.map Record.word = s.records.map Record.word ++ ws
  jumpCount : t.jumpCount = s.jumpCount + BitVec.ofNat 32 (ws.countP (fun w => T.jumpWord w))
  branchCount : t.branchCount = s.branchCount + BitVec.ofNat 32 (ws.countP unconditionalWord)
  inputs : SameInputs s t

/-- The transition into Halted ends a scan that accepts nothing more (R366, R367). -/
theorem ScanEnds.halt (T : Profile) (s : State) : ScanEnds T s [] s.haltScan := by
  have step := haltedStep_haltScan s
  exact
    { fsm := step.fsm
      boundaryValid := step.boundaryValid
      binaryStart_toNat := rfl
      binaryStart_eq := rfl
      boundaryOffset := step.boundaryOffset
      programCounter := (BitVec.add_zero _).symm
      words := (List.append_nil _).symm
      jumpCount := (BitVec.add_zero _).symm
      branchCount := (BitVec.add_zero _).symm
      inputs := step.inputs }

/-- A counter bumped for one word and then raised for the rest is raised for the whole list. -/
theorem bumped_add_countP {p : Word32 → Bool} {w : Word32} (c : Word32) (ws : List Word32) :
    bumped (p w) c + BitVec.ofNat 32 (ws.countP p) = c + BitVec.ofNat 32 ((w :: ws).countP p) := by
  rw [bumped_eq_add, List.countP_cons, BitVec.ofNat_add, BitVec.add_assoc,
    BitVec.add_comm (BitVec.ofNat 32 (ws.countP p))]
  cases p w <;> rfl

/-- A word counts as a jump when its opcode routes to J-decode (R351, R368). -/
theorem Profile.countsJump_of_accepted {T : Profile} {w pc : Word32} {insn : Insn}
    (hd : T.decode w pc = .accepted insn) : countsJump insn = T.jumpWord w := by
  rw [countsJump, Profile.form_of_accepted hd, Profile.jumpWord]

/-- What a scan does after its first word, it does one word on (R365). -/
theorem ScanEnds.accept {T : Profile} (hT : T.WellFormed) {s t : State} {w : Word32} {insn : Insn} {ws : List Word32}
    (hw : Reads s w) (hd : T.decode w s.programCounter = .accepted insn) (h : ScanEnds T (s.accepted insn) ws t) :
    ScanEnds T s (w :: ws) t := by
  have hoff : (s.accepted insn).offset.toNat = s.offset.toNat + 4 := hw.offset_add_four
  have hlen : (s.accepted insn).offset.toNat + 4 * ws.length = s.offset.toNat + 4 * (w :: ws).length := by
    rw [hoff, List.length_cons]
    omega
  have hjump := Profile.countsJump_of_accepted hd
  have hbranch : countsBranch insn = unconditionalWord w := hT.decode_ubranch hd
  exact
    { fsm := h.fsm
      boundaryValid := h.boundaryValid
      binaryStart_toNat := hlen ▸ h.binaryStart_toNat
      binaryStart_eq := h.binaryStart_eq
      boundaryOffset := hlen ▸ h.boundaryOffset
      programCounter := by
        rw [h.programCounter, State.accepted_programCounter, List.length_cons, BitVec.add_assoc, Nat.mul_succ,
          Nat.add_comm, BitVec.ofNat_add]
      words := by
        rw [h.words, State.accepted_records, List.map_append, List.append_assoc, List.map_singleton,
          (Profile.decode_result hd).word]
        rfl
      jumpCount := by
        rw [h.jumpCount, State.accepted_jumpCount, hjump]
        exact bumped_add_countP _ _
      branchCount := by
        rw [h.branchCount, State.accepted_branchCount, hbranch]
        exact bumped_add_countP _ _
      inputs := (acceptedStep_accepted s insn).inputs.trans h.inputs }

/-- One step for each accepted word and one to halt (R373, R375): by recursion over the accepted words. -/
theorem Profile.WellFormed.scanEnds {T : Profile} (hT : T.WellFormed) (ws : List Word32) :
    ∀ {s : State}, s.fsm = .scanning → T.acceptedAhead s = ws → ScanEnds T s ws (T.scanSteps (ws.length + 1) s) := by
  induction ws with
  | nil =>
    intro s hf hws
    have halts : T.scanSteps 1 s = s.haltScan := by
      obtain he | ⟨w, hw⟩ := atEndOfData_or_reads hf
      · exact Profile.scanStep_of_atEndOfData he
      · cases hd : T.decode w s.programCounter with
        | rejected c => exact Profile.scanStep_of_rejected hw hd
        | accepted insn => simp [Profile.acceptedAhead_of_accepted hw hd] at hws
    rw [List.length_nil, Nat.zero_add, halts]
    exact .halt T s
  | cons w ws ih =>
    intro s hf hws
    obtain he | ⟨w', hw⟩ := atEndOfData_or_reads hf
    · simp [Profile.acceptedAhead_of_atEndOfData he] at hws
    · cases hd : T.decode w' s.programCounter with
      | rejected c => simp [Profile.acceptedAhead_of_rejected hw hd] at hws
      | accepted insn =>
        rw [Profile.acceptedAhead_of_accepted hw hd] at hws
        obtain ⟨rfl, hrest⟩ := List.cons.inj hws
        rw [List.length_cons, Profile.scanSteps, Profile.scanStep_of_accepted hw hd]
        exact .accept hT hw hd (ih hf hrest)

/-! ### The whole scan -/

theorem Profile.scanSteps_add (T : Profile) (m n : Nat) : ∀ s : State,
    T.scanSteps (m + n) s = T.scanSteps n (T.scanSteps m s) := by
  induction m with
  | zero => exact fun s => by rw [Nat.zero_add]; rfl
  | succ m ih => exact fun s => by rw [Nat.succ_add]; exact ih _

/-- Steps after Halted change nothing, so any number of steps that reaches it gives the whole scan. -/
theorem Profile.scanSteps_of_le {T : Profile} {m n : Nat} {s : State} (h : (T.scanSteps m s).fsm = .halted)
    (hle : m ≤ n) : T.scanSteps n s = T.scanSteps m s := by
  obtain ⟨k, rfl⟩ := Nat.exists_eq_add_of_le hle
  rw [T.scanSteps_add, Profile.scanSteps_of_halted h]

/-- The whole scan from a scanning state (R375). -/
theorem Profile.WellFormed.scan_ends {T : Profile} (hT : T.WellFormed) {s : State} (hf : s.fsm = .scanning) :
    ScanEnds T s (T.acceptedAhead s) (T.scan s) := by
  have ends := hT.scanEnds _ hf rfl
  have hle : (T.acceptedAhead s).length + 1 ≤ stepBound s := Nat.succ_le_succ (T.length_acceptedAhead_le s)
  rwa [Profile.scan, Profile.scanSteps_of_le ends.fsm hle]

/-- Settles O36: the recursion over the accepted words, and the steps up to the bound that follow it. -/
theorem scanClosedForm : Obligations.ScanClosedForm := fun _ hT _ hf =>
  have h := hT.scan_ends hf
  ⟨h.fsm, h.boundaryValid, h.binaryStart_toNat, h.binaryStart_eq, h.boundaryOffset, h.programCounter, h.words,
    h.jumpCount, h.branchCount, h.inputs⟩

/-- Each constraint is a finite check of the tables of `T_default` (R97). -/
theorem tDefault_wellFormed : tDefault.WellFormed where
  routes := by decide
  opcode4 := ⟨rfl, .beq, false, rfl⟩
  opcode63 := ⟨rfl, rfl⟩
  rEntries := ⟨rTable_keys, by decide⟩
  noop := ⟨0#32, .sll, fun _ => rfl⟩
  regimm := ⟨by unfold keysDistinct; decide, by decide, regimmTable_keys, rfl⟩
  cops := ⟨fun z => by cases z <;> decide, iTable_route⟩
  likely := by decide
  cascade := ⟨by decide, fun z => by cases z <;> decide, by decide⟩

/-- Every scan ends Halted, one that starts there at once (R373). -/
theorem scan_fsm (s : State) : (tDefault.scan s).fsm = .halted := by
  cases hf : s.fsm with
  | halted => rwa [Profile.scan, Profile.scanSteps_of_halted hf]
  | scanning => exact (tDefault_wellFormed.scan_ends hf).fsm

/-- Settles O35: the run is the scan over `T_default`, which halts within the bound and then repeats. -/
theorem scanTerminates : Obligations.ScanTerminates := by
  intro s
  refine ⟨tDefault.scan s, run_eq_scanSteps _ s, scan_fsm s, fun n => ?_⟩
  rw [run_eq_scanSteps, Profile.scanSteps_of_le (scan_fsm s) (Nat.le_add_right _ n)]
  rfl

/-! ### An image laid out from words -/

/-- The bytes of the image from the read offset to its end. -/
structure BytesAhead (s : State) (bytes : List Byte) : Prop where
  size : s.imageSize.toNat = s.offset.toNat + bytes.length
  byte : ∀ k, Memory.readByte s.image (s.offset.toNat + k) = bytes.getD k Memory.unlisted

/-- A loaded image, read from the end of its boot bytes. -/
theorem bytesAhead_ofInputs {boot bytes : List Byte} (entry : Word32) (order : ByteOrder)
    (h : (boot ++ bytes).length < 2 ^ 32) :
    BytesAhead (State.ofInputs (boot ++ bytes) entry (BitVec.ofNat 32 boot.length) order) bytes := by
  have hlen : boot.length + bytes.length < 2 ^ 32 := by rwa [List.length_append] at h
  have hoff : (BitVec.ofNat 32 boot.length).toNat = boot.length := Nat.mod_eq_of_lt (by omega)
  constructor
  case size =>
    simp only [State.ofInputs, State.startScan_imageSize, State.startScan_offset, hoff, BitVec.toNat_ofNat,
      List.length_append]
    exact Nat.mod_eq_of_lt hlen
  case byte =>
    intro k
    simp only [State.ofInputs, State.startScan_image, State.startScan_offset, hoff, Memory.readByte_ofBytes]
    rw [List.getD_append_right _ _ _ _ (by omega), Nat.add_sub_cancel_left]

theorem exists_wordBytes (order : ByteOrder) (w : Word32) : ∃ b0 b1 b2 b3, wordBytes order w = [b0, b1, b2, b3] := by
  cases order <;> exact ⟨_, _, _, _, rfl⟩

/-- The scanner reads back the word that stands ahead in its own byte order (R52). -/
theorem BytesAhead.reads {s : State} {w : Word32} {bytes : List Byte} (hf : s.fsm = .scanning)
    (h : BytesAhead s (wordBytes s.byteOrder w ++ bytes)) : Reads s w := by
  obtain ⟨b0, b1, b2, b3, hb⟩ := exists_wordBytes s.byteOrder w
  have hsize := h.size
  have hbyte := h.byte
  rw [hb] at hsize hbyte
  refine ⟨hf, imgRead32_eq_some.mpr ⟨by simp only [List.length_append, List.length_cons] at hsize; omega, ?_⟩⟩
  have h0 := hbyte 0
  rw [Nat.add_zero] at h0
  rw [h0, hbyte 1, hbyte 2, hbyte 3]
  exact (assembleWord_wordBytes _ _ _ _ _ _ hb).symm

/-- The bytes ahead after one word are those after its four bytes. -/
theorem BytesAhead.accepted {s : State} {w : Word32} {bytes : List Byte} (hf : s.fsm = .scanning)
    (h : BytesAhead s (wordBytes s.byteOrder w ++ bytes)) (insn : Insn) : BytesAhead (s.accepted insn) bytes := by
  have hoff := (h.reads hf).offset_add_four
  have hlen := length_wordBytes s.byteOrder w
  constructor
  case size =>
    rw [State.accepted_imageSize, State.accepted_offset, hoff, h.size, List.length_append, hlen]
    omega
  case byte =>
    intro k
    rw [State.accepted_image, State.accepted_offset, hoff, Nat.add_assoc, h.byte,
      List.getD_append_right _ _ _ _ (by omega), hlen, Nat.add_sub_cancel_left]

/-- The words a scan accepts are the valid words up to the first that is not. -/
theorem acceptedAhead_of_bytesAhead {T : Profile} {bad : Word32} {rest : List Byte} (hbad : T.accepts bad = false)
    (valid : List Word32) : ∀ {s : State}, s.fsm = .scanning → (∀ w ∈ valid, T.accepts w = true) →
      BytesAhead s (valid.flatMap (wordBytes s.byteOrder) ++ (wordBytes s.byteOrder bad ++ rest)) →
      T.acceptedAhead s = valid := by
  induction valid with
  | nil =>
    intro s hf _ h
    obtain ⟨c, hd⟩ := (T.accepts_eq_false_iff_at s.programCounter).mp hbad
    exact Profile.acceptedAhead_of_rejected (h.reads hf) hd
  | cons w valid ih =>
    intro s hf hvalid h
    obtain ⟨hw, hvalid⟩ := List.forall_mem_cons.mp hvalid
    obtain ⟨insn, hd⟩ := (T.accepts_iff_at s.programCounter).mp hw
    rw [List.flatMap_cons, List.append_assoc] at h
    rw [Profile.acceptedAhead_of_accepted (h.reads hf) hd]
    exact congrArg _ (ih (s := s.accepted insn) hf hvalid (h.accepted hf insn))

/-! ### The end-to-end statement -/

/-- The two jump opcodes of `T_default` (R342). -/
theorem jumpWord_default (w : Word32) : tDefault.jumpWord w = (opcodeOf w == 2 || opcodeOf w == 3) := by
  have hroute : ∀ op : BitVec 6, (tDefault.route op == .J) = (op == 2 || op == 3) := by decide
  exact hroute _

/-- A count of the words of an image does not reach the width of a counter (R35). -/
theorem zero_add_ofNat_countP {p : Word32 → Bool} {ws : List Word32} (h : ws.length < 2 ^ 32) :
    (0#32 + BitVec.ofNat 32 (ws.countP p)).toNat = ws.countP p := by
  have hle : ws.countP p ≤ ws.length := List.countP_le_length
  rw [BitVec.zero_add, BitVec.toNat_ofNat]
  exact Nat.mod_eq_of_lt (by omega)

theorem length_flatMap_wordBytes (order : ByteOrder) (ws : List Word32) :
    (ws.flatMap (wordBytes order)).length = 4 * ws.length := by
  induction ws with
  | nil => rfl
  | cons w ws ih =>
    rw [List.flatMap_cons, List.length_append, length_wordBytes, ih, List.length_cons]
    omega

/-- Settles O38: the accepted words of the loaded image are the valid ones, so the closed form gives every field, and
no count wraps in an image of fewer than 2^32 bytes. -/
theorem endToEndBoundary : Obligations.EndToEndBoundary := by
  intro boot rest valid bad entry order haligned hvalid hbad hsize
  rw [List.append_assoc, List.append_assoc] at hsize
  have hlen := hsize
  simp only [List.length_append, length_flatMap_wordBytes] at hlen
  have hoff : (BitVec.ofNat 32 boot.length).toNat = boot.length := Nat.mod_eq_of_lt (by omega)
  rw [List.append_assoc, List.append_assoc]
  have ends := tDefault_wellFormed.scanEnds valid rfl
    (acceptedAhead_of_bytesAhead hbad valid rfl hvalid (bytesAhead_ofInputs entry order hsize))
  refine ⟨_, run_eq_scanSteps _ _, ends.fsm, ?_, fun hpos => ?_, ends.words, ?_, ?_⟩
  · exact ends.binaryStart_toNat.trans (congrArg (· + 4 * valid.length) hoff)
  · have hstart := ends.binaryStart_toNat
    have hbound := ends.boundaryOffset
    simp only [State.ofInputs, State.startScan_offset, hoff] at hstart hbound
    rw [← hstart]
    exact hbound (by omega)
  · rw [ends.jumpCount]
    simp only [jumpWord_default]
    exact zero_add_ofNat_countP (by omega)
  · rw [ends.branchCount]
    exact zero_add_ofNat_countP (by omega)

/-- Settles O39: the case of O38 with no boot bytes and ten valid words. -/
theorem noOpStreamExample : Obligations.NoOpStreamExample := by
  intro entry
  have hvalid : ∀ w ∈ List.replicate 10 0#32, tDefault.accepts w = true := fun w hw => by
    rw [List.eq_of_mem_replicate hw]
    rfl
  obtain ⟨t, hrun, hfsm, hstart, hbound, hwords, -, -⟩ :=
    endToEndBoundary [] [] (List.replicate 10 0#32) 0xFFFFFFFF entry .big (by decide) hvalid rfl (by decide)
  have hboundary := hbound (by decide)
  have hlength := congrArg List.length hwords
  rw [List.length_map] at hlength
  exact ⟨t, hrun, hfsm, BitVec.eq_of_toNat_eq (Nat.add_right_cancel hboundary), BitVec.eq_of_toNat_eq hstart, hlength⟩

end Sys2Proof.Machine
end

section
/-! The proof of O58. The hexadecimal digits of a number are followed by recursion on the number, digit by digit from
the right (`toDigits_hex`); a 32-bit value has at most eight of them, and the zeros before them weigh nothing. -/

namespace Sys2Proof.Machine

/-- The sixteen digits in the order of their values (R391). -/
def hexDigits : List Char := "0123456789abcdef".toList

/-- What a list of digits says after a number read so far. -/
def readHex (start : Nat) (digits : List Char) : Nat :=
  digits.foldl (fun n c => 16 * n + hexDigits.idxOf c) start

theorem readHex_append (start : Nat) (xs ys : List Char) :
    readHex start (xs ++ ys) = readHex (readHex start xs) ys :=
  List.foldl_append

/-- Each digit is the character at the place of its value. -/
theorem hexDigits_digitChar : ∀ d < 16, d.digitChar ∈ hexDigits ∧ hexDigits.idxOf d.digitChar = d := by decide

/-- The digits of a number are hexadecimal and say the number: its last digit, and before it those of its quotient. -/
theorem toDigits_hex (n : Nat) : (∀ c ∈ Nat.toDigits 16 n, c ∈ hexDigits) ∧ readHex 0 (Nat.toDigits 16 n) = n := by
  induction n using Nat.strongRecOn with
  | ind n ih =>
    by_cases hn : n < 16
    · obtain ⟨hmem, hidx⟩ := hexDigits_digitChar n hn
      rw [Nat.toDigits_of_lt_base hn]
      exact ⟨List.forall_mem_singleton.mpr hmem, by simp [readHex, hidx]⟩
    · obtain ⟨hmem, hidx⟩ := hexDigits_digitChar (n % 16) (Nat.mod_lt _ (by decide))
      obtain ⟨hrest, hvalue⟩ := ih (n / 16) (by omega)
      rw [Nat.toDigits_of_base_le (by decide) (by omega), readHex_append, hvalue]
      refine ⟨List.forall_mem_append.mpr ⟨hrest, List.forall_mem_singleton.mpr hmem⟩, ?_⟩
      simp only [readHex, List.foldl_cons, List.foldl_nil, hidx]
      omega

/-- Leading zeros say nothing. -/
theorem readHex_zeros (k : Nat) : readHex 0 (List.replicate k '0') = 0 := by
  induction k with
  | zero => rfl
  | succ k ih => exact ih

theorem length_toDigits_word (v : Word32) : (Nat.toDigits 16 v.toNat).length ≤ 8 :=
  (Nat.length_toDigits_le_iff (by decide) (by decide)).mpr v.isLt

theorem hex8_toList (v : Word32) : (hex8 .lower v).toList =
    List.replicate (8 - (Nat.toDigits 16 v.toNat).length) '0' ++ Nat.toDigits 16 v.toNat := by
  simp only [hex8, inCase, String.toList_ofList]

/-- Settles O58: the zeros fill the digits up to eight, and both are hexadecimal digits. -/
theorem hexEightDigits : Obligations.HexEightDigits := by
  intro v
  have hlen := length_toDigits_word v
  obtain ⟨hmem, hvalue⟩ := toDigits_hex v.toNat
  refine ⟨?_, ?_, ?_⟩
  · rw [← String.length_toList, hex8_toList, List.length_append, List.length_replicate]
    omega
  · rw [hex8_toList]
    refine List.forall_mem_append.mpr ⟨fun c hc => ?_, hmem⟩
    rw [List.eq_of_mem_replicate hc]
    decide
  · rw [hex8_toList]
    exact (readHex_append _ _ _).trans (by rw [readHex_zeros, hvalue])

end Sys2Proof.Machine
end

section
/-! The proof of O59. Each table of `T_default` is checked once, entry by entry, for the operand list of the entry's own
mnemonic; an accepted word has the mnemonic of the entry it selects, or one of the two other names. -/

namespace Sys2Proof.Machine

theorem defaultRTable_operands : ∀ x ∈ defaultRTable, x.2.operands = operandsOf x.2.mn := by decide

theorem defaultRegimmTable_operands : ∀ x ∈ defaultRegimmTable, x.2.cls.operands = operandsOf x.2.mn := by decide

/-- A direct entry's class gives the operands of its mnemonic (R210). -/
def IEntry.operandsByName : IEntry → Bool
  | .direct mn cls _ _ => cls.operands == operandsOf mn
  | .regimm | .cop _ => true

theorem defaultITable_operands : ∀ x ∈ defaultITable, x.2.operandsByName = true := by decide

theorem defaultFloatTable_operands : ∀ x ∈ defaultFloatTable, x.2.operands = operandsOf x.2.mn := by decide

theorem defaultMoveTable_operands (z : CopId) : ∀ x ∈ defaultMoveTable.get z, x.2.operands = operandsOf x.2.mn := by
  cases z <;> decide

/-- The entry that decides a coprocessor word, in any of the three steps (R280). -/
theorem copMatch_operands {z : CopId} {w : Word32} {step : CopStep} {e : CopEntry}
    (h : tDefault.copMatch z w = some (step, e)) : e.operands = operandsOf e.mn := by
  obtain ⟨-, -, rfl⟩ | ⟨-, -, -, hm⟩ | ⟨-, -, hm⟩ := Profile.copMatch_cases h
  · rw [branchTable_get]
    rfl
  · unfold Profile.floatMatch at hm
    split at hm
    · next hl =>
      cases hm
      exact defaultFloatTable_operands _ (mem_of_lookup_eq_some hl)
    · split at hm <;> cases hm
      rfl
  · exact defaultMoveTable_operands z _ (mem_of_lookup_eq_some hm)

/-- Both ways to accept an I-form word keep the name they are given (R219). -/
theorem mn_of_acceptedIForm {p : Prop} [Decidable p] {mn : Mnemonic} {w pc : Word32} {u : Bool} {insn : Insn}
    (h : (if p then acceptedBranch mn w pc u else acceptedPlain mn w u) = .accepted insn) : insn.mn = mn := by
  split at h <;> cases h <;> rfl

/-- An accepted I-form word, in any of the three families (R211). -/
theorem iOperands_of_accepted {w pc : Word32} {insn : Insn} (h : tDefault.iDecode w pc = .accepted insn) :
    tDefault.iOperands w = operandsOf insn.mn := by
  cases hl : tDefault.iTable.lookup (opcodeOf w) with
  | none => simp [Profile.iDecode, hl] at h
  | some entry =>
    cases entry with
    | regimm =>
      simp only [Profile.iDecode, hl] at h
      simp only [Profile.iOperands, hl]
      obtain ⟨-, hd⟩ | ⟨e, he, ⟨-, hd⟩ | ⟨-, hd⟩⟩ := tDefault.regimmDecode_cases w pc <;> rw [hd] at h
      · cases h
      · cases h
      · rw [mn_of_acceptedIForm h, he]
        exact defaultRegimmTable_operands _ (mem_of_lookup_eq_some he)
    | cop z =>
      simp only [Profile.iDecode, hl] at h
      simp only [Profile.iOperands, hl]
      obtain ⟨-, hd⟩ | ⟨step, e, hm, ⟨-, hd⟩ | ⟨-, hd⟩⟩ := tDefault.copDecode_cases z w pc <;> rw [hd] at h
      · cases h
      · cases h
      · rw [mn_of_acceptedIForm h, hm]
        exact copMatch_operands hm
    | direct mn cls zero likely =>
      simp only [Profile.iDecode, hl] at h
      simp only [Profile.iOperands, hl]
      split at h
      · cases h
      · rw [mn_of_acceptedIForm h]
        exact beq_iff_eq.mp (defaultITable_operands _ (mem_of_lookup_eq_some hl))

/-- The result that an R-table entry gives a word, under its own name or another (R141, R147). -/
theorem operandsOf_result {w : Word32} {e : REntry} (hl : tDefault.rTable.lookup (functOf w) = some e) :
    tDefault.operandsOf (e.result w) = operandsOf (e.result w).mn := by
  unfold REntry.result
  split_ifs
  · rfl
  · rfl
  · have hentry := defaultRTable_operands _ (mem_of_lookup_eq_some hl)
    simpa [Profile.operandsOf, resultR, hl] using hentry

/-- Settles O59: by the decoder the word routes to, the operands are those of the entry it selects. -/
theorem operandListsAgree : Obligations.OperandListsAgree := by
  intro w pc insn h
  have hform := Profile.form_of_accepted h
  have hword := (Profile.decode_result h).word
  cases hr : tDefault.route (opcodeOf w) with
  | R =>
    rw [Profile.decode, hr] at h
    cases hl : tDefault.rTable.lookup (functOf w) with
    | none => simp [Profile.rDecode, hl] at h
    | some e =>
      obtain ⟨-, -, hd⟩ | ⟨-, hd⟩ := Profile.rDecode_cases hl <;> rw [hd] at h <;> cases h
      exact operandsOf_result hl
  | J =>
    rw [Profile.decode_of_route_J pc hr] at h
    cases h
    split <;> rfl
  | I =>
    rw [Profile.decode, hr] at h
    rw [Profile.operandsOf, hform, hr, hword]
    exact iOperands_of_accepted h

end Sys2Proof.Machine
end

section
/-! The proof of O41, by the read-after-write laws of the image. -/

namespace Sys2Proof.Machine

/-- A placed word's bytes read back in their order (log entry 11). -/
theorem readByte_withFetchWord_inside {s : State} (hwf : Memory.wf s.image = true) (nbits w : Nat) {k : Nat}
    (hk : k < 4) : Memory.readByte (s.withFetchWord nbits w).image (s.offset.toNat + k) =
      (wordBytes s.byteOrder (tableWord nbits w)).getD k Memory.unlisted := by
  rw [State.withFetchWord_image, Memory.readByte_writeBytes _ hwf, length_wordBytes, if_pos (by omega),
    Nat.add_sub_cancel_left]

/-- Every other byte reads as before. -/
theorem readByte_withFetchWord_outside {s : State} (hwf : Memory.wf s.image = true) (nbits w : Nat) {a : Nat}
    (ha : a < s.offset.toNat ∨ s.offset.toNat + 4 ≤ a) :
    Memory.readByte (s.withFetchWord nbits w).image a = Memory.readByte s.image a := by
  rw [State.withFetchWord_image, Memory.readByte_writeBytes _ hwf, length_wordBytes, if_neg (by omega)]

/-- The scanner is about to read the placed word. -/
theorem reads_withFetchWord {s : State} (hwf : Memory.wf s.image = true) (nbits w : Nat)
    (h : s.offset.toNat + 4 < 2 ^ 32) : Reads (s.withFetchWord nbits w) (tableWord nbits w) := by
  obtain ⟨b0, b1, b2, b3, hb⟩ := exists_wordBytes s.byteOrder (tableWord nbits w)
  have hbyte {k : Nat} (hk : k < 4) := hb ▸ readByte_withFetchWord_inside hwf nbits w hk
  have h0 := hbyte (k := 0) (by decide)
  rw [Nat.add_zero] at h0
  refine ⟨rfl, imgRead32_eq_some.mpr ⟨?_, ?_⟩⟩
  · rw [withFetchWord_imageSize_toNat nbits w h, State.withFetchWord_offset]
    exact le_max_right _ _
  · rw [State.withFetchWord_offset, State.withFetchWord_byteOrder, h0, hbyte (k := 1) (by decide),
      hbyte (k := 2) (by decide), hbyte (k := 3) (by decide)]
    exact (assembleWord_wordBytes _ _ _ _ _ _ hb).symm

/-- Settles O41: the placed word is read back, so O21 says what the step runs; the rest of the state is written by no
clause of `State.withFetchWord`. -/
theorem placedWordIsFetched : Obligations.PlacedWordIsFetched := by
  intro s nbits w hwf h
  have hreads := reads_withFetchWord hwf nbits w h
  refine ⟨hreads, fun i hd => stepRunsDecodedInstruction _ _ i hreads hd,
    fun a ha => readByte_withFetchWord_outside hwf nbits w ha, ?_, rfl⟩
  rw [withFetchWord_imageSize_toNat nbits w h]
  exact le_max_left _ _

end Sys2Proof.Machine
end

section
/-! The proofs of O2, O3 and O4. An encoded word is decoded shape by shape: the field lemmas take the decoder to the
arm of its selector, and the tested fields of the word are those the encoder writes as zero. The converse opens no arm
of the decoder: the record that the machine emits for a decoded word holds both the word and the instruction's own
encoding. -/

namespace Sys2Proof

open Machine

/-! ### Where the decoder takes each shape of word -/

theorem decode_of_opcode_zero {w : Word32} (h : opcodeOf w = 0#6) : decode w = rDecode w := by
  simp only [decode, h]

theorem decode_rWord (rs rt rd shamt : BitVec 5) (funct : BitVec 6) :
    decode (rWord 0#6 rs rt rd shamt funct) = rDecode (rWord 0#6 rs rt rd shamt funct) :=
  decode_of_opcode_zero (opcodeOf_rWord ..)

theorem decode_codeWord (code : BitVec 20) (funct : BitVec 6) :
    decode (jWord 0#6 (code ++ funct)) = rDecode (jWord 0#6 (code ++ funct)) :=
  decode_of_opcode_zero (opcodeOf_jWord ..)

theorem decode_trapWord (rs rt : BitVec 5) (code : BitVec 10) (funct : BitVec 6) :
    decode (iWord 0#6 rs rt (code ++ funct)) = rDecode (iWord 0#6 rs rt (code ++ funct)) :=
  decode_of_opcode_zero (opcodeOf_iWord ..)

/-- The opcodes that are not routed to I-decode (R351). -/
def routedOpcodes : List (BitVec 6) := [0, 2, 3]

theorem decode_of_iForm {w : Word32} (h : opcodeOf w ∉ routedOpcodes) : decode w = iDecode w := by
  unfold decode
  split
  case h_4 => rfl
  case h_1 hop | h_2 hop | h_3 hop => exact absurd (by rw [hop]; decide) h

theorem decode_iWord {op : BitVec 6} (hop : op ∉ routedOpcodes) (rs rt : BitVec 5) (imm : BitVec 16) :
    decode (iWord op rs rt imm) = iDecode (iWord op rs rt imm) :=
  decode_of_iForm (by rwa [opcodeOf_iWord])

theorem decode_regimmWord (rs rt : BitVec 5) (imm : BitVec 16) :
    decode (iWord 1#6 rs rt imm) = regimmDecode (iWord 1#6 rs rt imm) := by
  rw [decode_iWord (by decide)]
  simp only [iDecode, opcodeOf_iWord]

theorem decode_jWord_j (target : BitVec 26) : decode (jWord 2#6 target) = .ok (.j target) := by
  simp only [decode, opcodeOf_jWord, targetOf_jWord]

theorem decode_jWord_jal (target : BitVec 26) : decode (jWord 3#6 target) = .ok (.jal target) := by
  simp only [decode, opcodeOf_jWord, targetOf_jWord]

/-! ### The steps of the coprocessor cascade -/

/-- The opcodes of coprocessor access (R280). -/
def copOpcodes : List (BitVec 6) := [16, 17, 18]

/-- The coprocessor id of such an opcode. -/
def copIdOf (op : BitVec 6) : CopId := if op = 16#6 then .cop0 else if op = 17#6 then .cop1 else .cop2

theorem copOpcode_copIdOf : ∀ op ∈ copOpcodes, copOpcode (copIdOf op) = op := by decide

theorem decode_of_copOpcode {z : CopId} {w : Word32} (h : opcodeOf w = copOpcode z) : decode w = copDecode z w := by
  rw [decode_of_iForm (by rw [h]; cases z <;> decide)]
  cases z <;> simp only [iDecode, h, copOpcode]

/-- Step (a): the word carries the sentinel (R281). -/
theorem decode_copBranchWord {op : BitVec 6} (hop : op ∈ copOpcodes) (x : BitVec 3) (sel : BitVec 2)
    (imm : BitVec 16) :
    decode (copBranchWord op x sel imm) = .ok (copBranchDecode (copIdOf op) (copBranchWord op x sel imm)) := by
  rw [decode_of_copOpcode (z := copIdOf op) (by rw [opcodeOf_copBranchWord, copOpcode_copIdOf op hop])]
  exact if_pos (by rw [rsOf_copBranchWord]; rfl)

/-- Step (c): the keys of the move set are neither the sentinel nor behind the gate (R286, W9). -/
theorem decode_copMoveWord {op : BitVec 6} (hop : op ∈ copOpcodes) {rs : BitVec 5}
    (hrs : rs ∈ ([0, 1, 2, 4, 5, 6] : List (BitVec 5))) (rt rd : BitVec 5) :
    decode (copMoveWord op rs rt rd) = copMoveDecode (copIdOf op) (copMoveWord op rs rt rd) := by
  have hkeys : ∀ rs ∈ ([0, 1, 2, 4, 5, 6] : List (BitVec 5)), (rs == 8) = false ∧ rs.getLsbD 4 = false := by decide
  obtain ⟨hs, hg⟩ := hkeys rs hrs
  rw [decode_of_copOpcode (z := copIdOf op) (by rw [opcodeOf_copMoveWord, copOpcode_copIdOf op hop])]
  unfold copDecode
  rw [floatGateOf_eq, rsOf_copMoveWord, hs, hg]
  cases copIdOf op <;> rfl

/-- Step (b): the sentinel is not behind the gate (R282, W9). -/
theorem decode_of_gate {w : Word32} (hop : opcodeOf w = 17#6) (hg : floatGateOf w = true) :
    decode w = (floatDecode w).getD (copMoveDecode .cop1 w) := by
  have hs : ¬ (rsOf w == 8) = true := fun h => rs_ne_sentinel_of_gate hg (beq_iff_eq.mp h)
  rw [decode_of_copOpcode (z := .cop1) hop]
  unfold copDecode
  rw [if_neg hs, hg]

theorem decode_floatWord (m : BitVec 4) (ft fs fd : BitVec 5) (funct : BitVec 6) :
    decode (floatWord m ft fs fd funct) =
      (floatDecode (floatWord m ft fs fd funct)).getD (copMoveDecode .cop1 (floatWord m ft fs fd funct)) :=
  decode_of_gate (opcodeOf_floatWord ..) (floatGateOf_floatWord ..)

/-- No function code of step (b) has the bits of the compare window, so the window decides (R284, W9). -/
theorem decode_compareWord (m : BitVec 4) (ft fs : BitVec 5) (x : BitVec 3) (cond : BitVec 4) :
    decode (compareWord m ft fs x cond) = .ok (.cCondFmt m cond fs ft x) := by
  have hcodes : ∀ cond : BitVec 4, ∀ funct ∈ floatCodes, 3#2 ++ cond ≠ funct := by decide
  have hd : floatDecode (compareWord m ft fs x cond) = some (.ok (.cCondFmt m cond fs ft x)) := by
    unfold floatDecode
    rw [functOf_compareWord]
    split
    case h_14 => simp
    all_goals exact absurd ‹_› (hcodes cond _ (by decide))
  rw [decode_of_gate (opcodeOf_compareWord ..) (floatGateOf_compareWord ..), hd]
  rfl

/-! ### Decode of encode -/

/-- The amount of a well-formed `sll` tells it from the no-op (R145). -/
theorem decode_encode_sll (rd rt : BitVec 5) {shamt : BitVec 5} (h : shamt ≠ 0#5) :
    decode (encode (.sll rd rt shamt)) = .ok (.sll rd rt shamt) := by
  have hs : ¬ (shamt == 0) = true := mt beq_iff_eq.mp h
  rw [encode, decode_rWord]
  unfold rDecode
  rw [functOf_rWord, rsOf_rWord, rtOf_rWord, rdOf_rWord, shamtOf_rWord, if_neg hs]
  rfl

/-- The second operand of a well-formed `addu` tells it from the move (R147). -/
theorem decode_encode_addu (rd rs : BitVec 5) {rt : BitVec 5} (h : rt ≠ 0#5) :
    decode (encode (.addu rd rs rt)) = .ok (.addu rd rs rt) := by
  have ht : ¬ (rt == 0) = true := mt beq_iff_eq.mp h
  rw [encode, decode_rWord]
  unfold rDecode
  rw [functOf_rWord, rsOf_rWord, rtOf_rWord, rdOf_rWord, shamtOf_rWord, if_neg ht]
  rfl

/-- Decode of encode, by the shape of the instruction's word. Under the field lemmas the selector is a literal, and so
is each field that the selected arm requires to be zero; what is left is evaluation. -/
theorem decode_encode {i : Instr} (h : i.wellFormed = true) : decode (encode i) = .ok i := by
  cases i with
  | sll rd rt shamt => exact decode_encode_sll rd rt (bne_iff_ne.mp h)
  | addu rd rs rt => exact decode_encode_addu rd rs (bne_iff_ne.mp h)
  | nopSll | srl | sra | sllv | srlv | srav | jr | jalr | mfhi | mthi | mflo | mtlo | dsllv | dsrlv | dsrav | mult
  | multu | div | divu | dmult | dmultu | ddiv | ddivu | add | move | sub | subu | and | or | xor | nor | slt | sltu
  | dadd | daddu | dsub | dsubu | dsll | dsrl | dsra | dsll32 | dsrl32 | dsra32 =>
    rw [encode, decode_rWord]
    unfold rDecode
    rw [functOf_rWord, rsOf_rWord, rtOf_rWord, rdOf_rWord, shamtOf_rWord]
    rfl
  | syscall | brk | nopSync => -- code bits
    rw [encode, decode_codeWord]
    unfold rDecode
    rw [functOf_codeWord, codeBitsOf_codeWord]
    rfl
  | tge | tgeu | tlt | tltu | teq | tne => -- trap codes
    rw [encode, decode_trapWord]
    unfold rDecode
    rw [functOf_trapWord, rsOf_iWord, rtOf_iWord, trapCodeOf_trapWord]
    rfl
  | beq | bne | blez | bgtz | addi | addiu | slti | sltiu | andi | ori | xori | lui | beql | bnel | daddi | daddiu | lb
  | lh | lwl | lw | lbu | lhu | lwr | lwu | sb | sh | swl | sw | swr | cache | lwc1 | ldc1 | ld | swc1 | sdc1 =>
    rw [encode, decode_iWord (by decide)]
    unfold iDecode
    rw [opcodeOf_iWord, rsOf_iWord, rtOf_iWord, immOf_iWord]
    rfl
  | bltz | bgez | bltzl | bgezl | tgei | tgeiu | tlti | tltiu | teqi | tnei | bltzal | bgezal | bltzall | bgezall =>
    rw [encode, decode_regimmWord]
    unfold regimmDecode
    rw [rsOf_iWord, rtOf_iWord, immOf_iWord]
    rfl
  | bc0f | bc0t | bc0fl | bc0tl | bc1f | bc1t | bc1fl | bc1tl | bc2f | bc2t | bc2fl | bc2tl =>
    rw [encode, decode_copBranchWord (by decide)]
    unfold copBranchDecode
    rw [branchSelectOf_copBranchWord, branchUntestedOf_copBranchWord, immOf_copBranchWord]
    rfl
  | addFmt | subFmt | mulFmt | divFmt | sqrtFmt | negFmt | roundWFmt | truncWFmt | ceilWFmt | floorWFmt | cvtSFmt
  | cvtDFmt | cvtWFmt =>
    rw [encode, decode_floatWord]
    unfold floatDecode
    rw [functOf_floatWord, formatLowOf_floatWord, rtOf_floatWord, rdOf_floatWord, shamtOf_floatWord]
    rfl
  | cCondFmt m cond fs ft x => exact decode_compareWord m ft fs x cond
  | mfc0 | dmfc0 | cfc0 | mtc0 | dmtc0 | ctc0 | mfc1 | dmfc1 | cfc1 | mtc1 | dmtc1 | ctc1 | mfc2 | dmfc2 | cfc2
  | mtc2 | dmtc2 | ctc2 =>
    rw [encode, decode_copMoveWord (by decide) (by decide)]
    unfold copMoveDecode
    rw [rsOf_copMoveWord, rtOf_copMoveWord, rdOf_copMoveWord, immLow11Of_copMoveWord]
    rfl
  | j target => exact decode_jWord_j target
  | jal target => exact decode_jWord_jal target

/-- Settles O2. -/
theorem decodeInvertsEncode : Obligations.DecodeInvertsEncode := fun _ => decode_encode

/-! ### Encode of decode -/

/-- The record emitted for a decoded word holds the word (O6) and the encoding of the instruction (O55). -/
theorem encode_of_decode {w : Word32} {i : Instr} (h : decode w = .ok i) : encode i = w := by
  obtain ⟨insn, hd, hx⟩ := exec_of_decode h State.reset
  obtain ⟨⟨r, hr, -, -, -, hword⟩, -⟩ := instructionFrame i _ _ hx
  obtain ⟨-, hrecord⟩ := List.append_inj' hr rfl
  rw [← hword, ← List.singleton_injective hrecord]
  exact (Profile.decode_result hd).word

/-- The two instructions that are not well formed have the word of another, which the decoder gives (R145, R147). -/
theorem wellFormed_of_decode {w : Word32} {i : Instr} (h : decode w = .ok i) : i.wellFormed = true := by
  rw [← encode_of_decode h] at h
  unfold Instr.wellFormed
  split
  · next rd rt shamt =>
    rw [bne_iff_ne]
    rintro rfl
    have hnop : decode (encode (.sll rd rt 0#5)) = .ok (.nopSll rd rt) := decode_encode (i := .nopSll rd rt) rfl
    simp [hnop] at h
  · next rd rs rt =>
    rw [bne_iff_ne]
    rintro rfl
    have hmove : decode (encode (.addu rd rs 0#5)) = .ok (.move rd rs) := decode_encode (i := .move rd rs) rfl
    simp [hmove] at h
  · rfl

/-- Settles O3. -/
theorem encodeInvertsDecode : Obligations.EncodeInvertsDecode := fun _ _ h =>
  ⟨wellFormed_of_decode h, encode_of_decode h⟩

/-- Settles O4: each word is decoded by evaluation. -/
theorem decodedSanityWords : Obligations.DecodedSanityWords :=
  ⟨rfl, rfl, rfl, rfl, rfl, rfl, rfl, rfl, rfl, rfl, rfl, rfl⟩

end Sys2Proof
end
